-- ==== Sys2Proof/Word.lean ====
section
/-! DEFINITION. The values of the block: the levels of an input wire and the data bus.

Every value of the spec is an unsigned integer (00_scope.md R12) and the widths `PTR_W` and `W` are parameters of
the block, so an index and an element are natural numbers (`Nat`). That they fit their widths is part of the
invariant of the state (`Machine.State.Inv`, Safety.lean); log entry 11. -/

namespace Sys2Proof

/-- What one input wire carries in a cycle: a clean 0 or 1, unknown (X) or undriven (Z) (30_encoding.md R80). -/
inductive Level where
  | lo
  | hi
  | x
  | z
deriving DecidableEq, Repr

/-- The clean bit of a wire, `none` for X and Z (30_encoding.md R80). -/
def Level.bit? : Level → Option Bool
  | .lo => some false
  | .hi => some true
  | .x => none
  | .z => none

/-- The level that carries a clean bit. -/
def Level.ofBit : Bool → Level
  | false => .lo
  | true => .hi

/-- What the `push_data` wires carry in a cycle. Wire `b` is unclean (X or Z) where bit `b` of `unclean` is 1;
otherwise it carries bit `b` of `value` (30_encoding.md R70, R75, R80). Only wires `0 .. W-1` exist: bits at `W` and
above mean nothing (log entry 10). -/
structure Bus where
  value : Nat
  unclean : Nat
deriving DecidableEq, Repr

/-- A bus whose wires are all clean. -/
def Bus.ofNat (v : Nat) : Bus := { value := v, unclean := 0 }

end Sys2Proof
end

