-- ==== Sys2Proof/Syntax.lean ====
section
/-! DEFINITION. The operation set: one constructor of `Instr` for each row of spec/opcode_table.json (30_encoding.md
R77), and the events the environment can present to the block.

The block has no instruction set (00_scope.md R2): "instruction" is the pipeline's word for a row of the table. -/

namespace Sys2Proof

/-- The requests a RESET command drops, `cmd[1:0]` with the data of a dropped push: the four spellings `reset`,
`reset.pop`, `reset.push v`, `reset.pushpop v` (30_encoding.md R81). -/
inductive Dropped where
  | none
  | pop
  | push (data : Bus)
  | pushPop (data : Bus)
deriving DecidableEq, Repr

/-- The rows of the opcode table. `push_data` is an operand where a push is requested; NOP and POP ignore it
(30_encoding.md R75). -/
inductive Instr where
  /-- `cmd = 000` (41_push_pop.md R101). -/
  | nop
  /-- `cmd = 001` (41_push_pop.md R103). -/
  | pop
  /-- `cmd = 010` (41_push_pop.md R102). -/
  | push (data : Bus)
  /-- `cmd = 011` (41_push_pop.md R104). -/
  | pushPop (data : Bus)
  /-- `cmd = 1--` (40_construct_reset.md R93). -/
  | reset (dropped : Dropped)
  /-- Sampling the output `empty` (42_status.md R120). -/
  | empty
  /-- Sampling the output `full` (42_status.md R121). -/
  | full
  /-- Sampling the output `capacity` (42_status.md R122). -/
  | capacity
  /-- Elaboration with storage size `C` and element width `W` (40_construct_reset.md R90). -/
  | construct (C W : Nat)
deriving DecidableEq, Repr

/-- The input wires of one cycle (30_encoding.md R70): what the reset controller, the producer and the consumer drive
(00_scope.md R16). -/
structure CycleInput where
  rst : Level
  pushReq : Level
  popReq : Level
  pushData : Bus
deriving DecidableEq, Repr

/-- The status outputs, which no command selects (30_encoding.md R77). -/
inductive StatusPort where
  | empty
  | full
  | capacity
deriving DecidableEq, Repr

/-- What the environment does next: a clock cycle with its inputs, the sampling of a status output between two edges
(log entry 7), or the elaboration of a block (log entry 8). -/
inductive Event where
  | cycle (input : CycleInput)
  | sample (port : StatusPort)
  | elaborate (C W : Nat)
deriving DecidableEq, Repr

end Sys2Proof
end

