-- ==== Sys2Proof/WellFormed.lean ====
section
/-! DEFINITION. When an operand fits the ports of a block whose elements have `W` bits (30_encoding.md R70, R75). -/

namespace Sys2Proof

/-- The bus has no wire at `W` or above, and an unclean wire carries no value. -/
def Bus.wf (W : Nat) (b : Bus) : Bool :=
  decide (b.value < 2 ^ W) && decide (b.unclean < 2 ^ W) && (b.value &&& b.unclean) == 0

def Dropped.wf (W : Nat) : Dropped → Bool
  | .none => true
  | .pop => true
  | .push data => data.wf W
  | .pushPop data => data.wf W

/-- The operands of a command fit the ports. Every `C` and `W` may be asked of CONSTRUCT: an illegal choice is its
fault (40_construct_reset.md R91), not ill-formed. -/
def Instr.wf (W : Nat) : Instr → Bool
  | .nop => true
  | .pop => true
  | .push data => data.wf W
  | .pushPop data => data.wf W
  | .reset dropped => dropped.wf W
  | .empty => true
  | .full => true
  | .capacity => true
  | .construct _ _ => true

end Sys2Proof
end

