-- ==== Sys2Proof/Decode.lean ====
section
/-! DEFINITION. Decoding a cycle's input wires (30_encoding.md R72, R77, R78, R80), its cycle word (R73) and an event,
each total and refusing by name; then the encoder, written from the same tables. -/

namespace Sys2Proof

/-- Why no command is read. -/
inductive DecodeError where
  /-- `rst`, `push_req` or `pop_req` is not a clean 0 or 1 (R80). -/
  | inputUnknown
  /-- The number is no `(W + 3)`-bit cycle word (R73). -/
  | wordTooWide
deriving DecidableEq, Repr

/-- A row of the opcode table: the command vectors `cmd` with `cmd & mask = pattern`. -/
structure OpcodeRow where
  mnemonic : String
  pattern : Nat
  mask : Nat
deriving DecidableEq, Repr

/-- The opcode map of R77, as spec/opcode_table.json gives it. -/
def opcodeRows : List OpcodeRow :=
  [⟨"NOP", 0, 7⟩, ⟨"POP", 1, 7⟩, ⟨"PUSH", 2, 7⟩, ⟨"PUSH_POP", 3, 7⟩, ⟨"RESET", 4, 4⟩]

def OpcodeRow.selects (r : OpcodeRow) (cmd : Nat) : Bool := (cmd &&& r.mask) == r.pattern

/-- The command `cmd = {rst, push_req, pop_req}` selects (R72, R77). NOP, POP and a RESET with no push request ignore
`push_data` (R75). -/
def decodeCmd (rst pushReq popReq : Bool) (data : Bus) : Instr :=
  match rst, pushReq, popReq with
  | false, false, false => .nop
  | false, false, true => .pop
  | false, true, false => .push data
  | false, true, true => .pushPop data
  | true, false, false => .reset .none
  | true, false, true => .reset .pop
  | true, true, false => .reset (.push data)
  | true, true, true => .reset (.pushPop data)

/-- Decoding the wires of a cycle: unclean request wires are refused (R80), whatever the others carry (41_push_pop.md
R100). Unclean `push_data` wires are left to the command, which may ignore them. -/
def decodeInput (inp : CycleInput) : Except DecodeError Instr :=
  match inp.rst.bit?, inp.pushReq.bit?, inp.popReq.bit? with
  | some rst, some pushReq, some popReq => .ok (decodeCmd rst pushReq popReq inp.pushData)
  | _, _, _ => .error .inputUnknown

/-- The wires that `CW = {rst, push_req, pop_req, push_data}` stands for (R73). -/
def CycleInput.ofWord (W cw : Nat) : CycleInput :=
  { rst := Level.ofBit (cw.testBit (W + 2))
    pushReq := Level.ofBit (cw.testBit (W + 1))
    popReq := Level.ofBit (cw.testBit W)
    pushData := Bus.ofNat (cw % 2 ^ W) }

/-- Decoding a cycle word of `W + 3` bits (R73). -/
def decodeWord (W cw : Nat) : Except DecodeError Instr :=
  if cw < 2 ^ (W + 3) then decodeInput (CycleInput.ofWord W cw) else .error .wordTooWide

/-- The instruction an event asks for. -/
def decodeEvent : Event → Except DecodeError Instr
  | .cycle inp => decodeInput inp
  | .sample .empty => .ok .empty
  | .sample .full => .ok .full
  | .sample .capacity => .ok .capacity
  | .elaborate C W => .ok (.construct C W)

/-! ## The encoder -/

/-- Clean request wires, with the given data. -/
def CycleInput.clean (rst pushReq popReq : Bool) (data : Bus) : CycleInput :=
  { rst := Level.ofBit rst, pushReq := Level.ofBit pushReq, popReq := Level.ofBit popReq, pushData := data }

/-- The wires of a RESET cycle with its dropped requests (R81). -/
def encodeReset : Dropped → CycleInput
  | .none => .clean true false false (Bus.ofNat 0)
  | .pop => .clean true false true (Bus.ofNat 0)
  | .push data => .clean true true false data
  | .pushPop data => .clean true true true data

/-- The event that asks for an instruction. Ignored `push_data` is 0 (R81). -/
def encodeEvent : Instr → Event
  | .nop => .cycle (.clean false false false (Bus.ofNat 0))
  | .pop => .cycle (.clean false false true (Bus.ofNat 0))
  | .push data => .cycle (.clean false true false data)
  | .pushPop data => .cycle (.clean false true true data)
  | .reset dropped => .cycle (encodeReset dropped)
  | .empty => .sample .empty
  | .full => .sample .full
  | .capacity => .sample .capacity
  | .construct C W => .elaborate C W

/-- `CW = {rst, push_req, pop_req, push_data}` of clean wires (R73); `none` where an existing wire is unclean. -/
def CycleInput.word? (W : Nat) (inp : CycleInput) : Option Nat :=
  match inp.rst.bit?, inp.pushReq.bit?, inp.popReq.bit? with
  | some rst, some pushReq, some popReq =>
    if inp.pushData.unclean % 2 ^ W = 0 then
      some ((rst.toNat * 4 + pushReq.toNat * 2 + popReq.toNat) * 2 ^ W + inp.pushData.value % 2 ^ W)
    else none
  | _, _, _ => none

/-- The cycle word of a command; `none` for a status output, CONSTRUCT (R77 gives them no `cmd`) and unclean data. -/
def encodeWord (W : Nat) (i : Instr) : Option Nat :=
  match encodeEvent i with
  | .cycle inp => inp.word? W
  | .sample _ => none
  | .elaborate _ _ => none

/-! ## The host's numbering -/

/-- The wires a word of spec/opcode_table.json stands for: bits 2 to 0 are `cmd`, as its `match` and `mask` apply
"to cmd[2:0]". The table numbers no bits of `push_data`; the model numbers them from bit 3 up (log entry 9). -/
def tableInput (w : Nat) : CycleInput :=
  .clean (w.testBit 2) (w.testBit 1) (w.testBit 0) (Bus.ofNat (w / 8))

/-- The instruction the decoder reads from a word numbered as spec/opcode_table.json numbers it. -/
def decodeTableWord (_nbits w : Nat) : Option Instr :=
  match decodeInput (tableInput w) with
  | .ok i => some i
  | .error _ => none

end Sys2Proof
end

