-- ==== Sys2Proof/Config.lean ====
section
/-! DEFINITION. The parameters of a block (00_scope.md R6 to R11) and the free values: what the spec leaves
unconstrained ("any W-bit value", 00_scope.md R15).

A free value is an opaque constant with no body, applied to a plain number that State holds. Nothing can be proved of
its value, so a claim holds whatever it is (log entries 4, 5 and 6). -/

namespace Sys2Proof

/-- The tests of CONSTRUCT (40_construct_reset.md R90), on the storage size `C`, the element width `W` and the bound
`MAX_LOG2_C`: `C > 0`, `C & (C - 1) = 0`, `W >= 1`, and `k = log2 C` at most the bound. -/
def Config.legal (C W maxLog2C : Nat) : Bool :=
  decide (0 < C) && (C &&& (C - 1)) == 0 && decide (1 ≤ W) && decide (Nat.log2 C ≤ maxLog2C)

/-- The parameters a block was elaborated with. A value carries the proof that they are legal, so an illegal
configuration cannot be built (40_construct_reset.md R91, 60_exceptions.md R135). -/
structure Params where
  /-- Storage size, the number of slots (R6). -/
  C : Nat
  /-- Width of one element in bits, `DATA_WIDTH` (R8). -/
  W : Nat
  /-- `MAX_LOG2_C`, the largest `k` the implementation admits (R6, R7). -/
  maxLog2C : Nat
  legal : Config.legal C W maxLog2C = true
deriving DecidableEq, Repr

/-- `k = log2 C` (00_scope.md R7). -/
def Params.k (p : Params) : Nat := Nat.log2 p.C

/-- `PTR_W = max(k, 1)`, the width of `head`, `tail` and `capacity` (00_scope.md R9). -/
def Params.ptrW (p : Params) : Nat := max p.k 1

/-- `MASK = C - 1` (00_scope.md R10). -/
def Params.mask (p : Params) : Nat := p.C - 1

/-- `USABLE = C - 1`, the most elements the block holds at once (00_scope.md R11). -/
def Params.usable (p : Params) : Nat := p.C - 1

/-- FREE VALUE: what `pop_data` shows in a cycle with `pop_ok = 0` (42_status.md R123), by draw number. -/
opaque Config.freePopData : Nat → Nat

/-- FREE VALUE: what `empty` shows before the first reset edge (42_status.md R120), by draw number. -/
opaque Config.freeEmpty : Nat → Bool

/-- FREE VALUE: what `full` shows before the first reset edge (42_status.md R121), by draw number. -/
opaque Config.freeFull : Nat → Bool

/-- FREE VALUE: `head` at power-up (10_state.md R39), by draw number. -/
opaque Config.powerUpHead : Nat → Nat

/-- FREE VALUE: `tail` at power-up (10_state.md R39), by draw number. -/
opaque Config.powerUpTail : Nat → Nat

/-- FREE VALUE: the bits of a slot that nothing has written since power-up (10_state.md R38, R39), by power-up and
slot index. -/
opaque Config.powerUpSlot : Nat → Nat → Nat

end Sys2Proof
end

