-- ==== Sys2Proof/Machine/State.lean ====
section
/-! DEFINITION. The machine's state as plain data, the reasons a step stops, and the state after reset. -/

namespace Sys2Proof.Machine

/-- Why the machine stops with a fault. -/
inductive Fault where
  /-- Raised by CONSTRUCT, and by nothing else, when its parameters are illegal: `FAULT_CONFIG_INVALID`
  (60_exceptions.md R135), with the offending `C` and `W` and the bound in force. Safe: no block exists after it
  (40_construct_reset.md R91). -/
  | configInvalid (C W maxLog2C : Nat)
deriving DecidableEq, Repr

/-- Why the model gives a step no meaning. -/
inductive Refusal where
  /-- Raised by `exec` alone, for an instruction whose arm has no meaning yet (none at present). Safe: nothing can be
  proved of such a step. -/
  | notModelled (mnemonic : String)
  /-- Raised by NOP, POP, PUSH and PUSH_POP before the first reset edge (60_exceptions.md R136). Safe: the spec itself
  refuses it, "errs toward unprovable". -/
  | notConstructed
  /-- Raised by the step for an unclean `rst`, `push_req` or `pop_req`, and by PUSH and PUSH_POP for an accepted push
  with an unclean `push_data` wire (60_exceptions.md R137). Safe: the spec itself refuses it. -/
  | inputUnknown
deriving DecidableEq, Repr

/-- The outputs of one cycle (30_encoding.md R70). -/
structure Output where
  pushOk : Bool
  popOk : Bool
  empty : Bool
  full : Bool
  capacity : Nat
  popData : Nat
deriving DecidableEq, Repr

/-- One cycle as the trace keeps it: the requests, whether the block was constructed before the edge, the element
taken at the edge if the push was accepted, and the outputs. `push_data` that no push took leaves no mark here
(30_encoding.md R75). -/
structure CycleRecord where
  rst : Bool
  pushReq : Bool
  popReq : Bool
  constructed : Bool
  pushed : Option Nat
  out : Output
deriving DecidableEq, Repr

/-- What the sampling of a status output read (42_status.md R120, R121, R122). -/
inductive Sample where
  | empty (value : Bool)
  | full (value : Bool)
  | capacity (value : Nat)
deriving DecidableEq, Repr

/-- The storage array (10_state.md R26), sparse: pairs of slot index and element, indices strictly rising. A slot that
is not listed has not been written since power-up and holds unspecified bits (10_state.md R38, log entry 6). -/
abbrev Memory := List (Nat × Nat)

/-- The state. `head`, `tail`, `storage` are the block's own (10_state.md R20), `constructed` is the spec's model-only
bit (R21), `params` the elaboration constants (R28). The rest is the model's: the environment's inputs to come, the
observation so far (41_push_pop.md R114), and the counters of the free values. -/
structure State where
  params : Params
  constructed : Bool
  head : Nat
  tail : Nat
  storage : Memory
  /-- The input stream not yet applied, next event first (log entry 2). -/
  events : List Event
  /-- The records of the cycles so far, oldest first; its length is the cycle number `t` (10_state.md R23) where the
  trace starts at power-up. What `t` counts from in `State.reset` is log entry 19. -/
  trace : List CycleRecord
  /-- What the last sampling of a status output read (log entry 7). -/
  lastSample : Option Sample
  /-- The number of the next free draw (00_scope.md R15, log entry 4). -/
  draws : Nat
  /-- Which draw the unwritten slots of this block come from (log entry 5). -/
  powerUpId : Nat
deriving DecidableEq, Repr

/-- The parameters of the block in `State.reset`: DESIGN CHOICE (log entry 1), since the spec leaves `C`, `W` and
`MAX_LOG2_C` open. No claim rests on them. -/
def resetParams : Params := { C := 4, W := 8, maxLog2C := 16, legal := by decide }

/-- The state right after the first reset edge (10_state.md R38): both indices 0, constructed, no slot written.
DESIGN CHOICE (log entry 19): the cycle of that edge, `t = 0` of a run from power-up (R23, 41_push_pop.md R114), has no
record here, so the first command after `State.reset` gets `t = 0`. -/
def State.reset : State :=
  { params := resetParams
    constructed := true
    head := 0
    tail := 0
    storage := []
    events := []
    trace := []
    lastSample := none
    draws := 0
    powerUpId := 0 }

end Sys2Proof.Machine
end

