-- ==== Sys2Proof/Machine/Ops.lean ====
section
/-! DEFINITION. The shared operations: index arithmetic, storage, the queue view, and the updates of single fields.

The block takes no exception and returns from none (60_exceptions.md R140, R141), so there is no operation for that:
`Full` and `Empty` are results on the outputs (R130), and the one fault and the two refusals stop the run. -/

namespace Sys2Proof

/-- `next(x) = (x + 1) & MASK`, with `x + 1` exact (41_push_pop.md R105). -/
def Params.next (p : Params) (x : Nat) : Nat := (x + 1) &&& p.mask

end Sys2Proof

namespace Sys2Proof.Machine

/-! ## Storage (00_scope.md R14) -/

/-- What was last written to a slot since power-up, `none` if nothing was. -/
def Memory.read? : Memory → Nat → Option Nat
  | [], _ => none
  | (a, v) :: rest, i => if a = i then some v else Memory.read? rest i

/-- Writing a slot, keeping the list sorted by index. -/
def Memory.write : Memory → Nat → Nat → Memory
  | [], i, v => [(i, v)]
  | (a, w) :: rest, i, v =>
    if i < a then (i, v) :: (a, w) :: rest
    else if i = a then (i, v) :: rest
    else (a, w) :: Memory.write rest i v

/-- The indices rise strictly from `lo`, stay below `C`, and every element fits in `W` bits. -/
def Memory.wfFrom (C W : Nat) : Nat → Memory → Bool
  | _, [] => true
  | lo, (a, v) :: rest =>
    decide (lo ≤ a) && decide (a < C) && decide (v < 2 ^ W) && Memory.wfFrom C W (a + 1) rest

/-- The canonical form: strictly rising slot indices below `C`, elements below `2 ^ W`. No listed entry can equal what
an unlisted slot reads as, since that is a free value. -/
def Memory.wf (C W : Nat) (m : Memory) : Bool := Memory.wfFrom C W 0 m

/-- What an unlisted slot reads as: the unspecified bits it holds since power-up (10_state.md R38, R39), a free value
of `W` bits (log entry 6). -/
def State.unwritten (s : State) (i : Nat) : Nat := Config.powerUpSlot s.powerUpId i % 2 ^ s.params.W

/-- `MemRead(i, 1)` (00_scope.md R14): the `W`-bit content of slot `i`. -/
def State.memRead (s : State) (i : Nat) : Nat :=
  match Memory.read? s.storage i with
  | some v => v
  | none => s.unwritten i

/-! ## The queue view -/

/-- `count(s) = (s.tail - s.head + C) & MASK` (10_state.md R31), the sum taken before the difference so that it is
exact. -/
def State.count (s : State) : Nat := (s.tail + s.params.C - s.head) &&& s.params.mask

/-- The slot of the `j`-th oldest live element (10_state.md R34). -/
def State.liveSlot (s : State) (j : Nat) : Nat := (s.head + j) &&& s.params.mask

/-- `Q(s)`, the live elements, oldest first (41_push_pop.md R107). -/
def State.queue (s : State) : List Nat := (List.range s.count).map fun j => s.memRead (s.liveSlot j)

/-- The cycle number `t` (10_state.md R23): how many edges the run has had. -/
def State.cycle (s : State) : Nat := s.trace.length

/-! ## Updates of single fields -/

def State.withHead (s : State) (x : Nat) : State := { s with head := x }

def State.withTail (s : State) (x : Nat) : State := { s with tail := x }

/-- `MemWrite(i, 1, v)` (00_scope.md R14). -/
def State.memWrite (s : State) (i : Nat) (v : Nat) : State := { s with storage := Memory.write s.storage i v }

def State.markConstructed (s : State) : State := { s with constructed := true }

def State.withEvents (s : State) (es : List Event) : State := { s with events := es }

def State.withSample (s : State) (v : Sample) : State := { s with lastSample := some v }

/-- The end of a cycle: its record joins the trace and the free draws move on (00_scope.md R15). -/
def State.record (s : State) (r : CycleRecord) : State :=
  { s with trace := s.trace ++ [r], draws := s.draws + 1 }

end Sys2Proof.Machine
end

