-- ==== Sys2Proof/Machine/Operands.lean ====
section
/-! DEFINITION. The operand forms: the data bus (30_encoding.md R75, R80) and the assembly of `capacity` (R76), with
the output word (R74). -/

namespace Sys2Proof

/-- Every `push_data` wire that exists, `0 .. W-1`, is a clean 0 or 1 (R80). -/
def Bus.clean (W : Nat) (b : Bus) : Bool := b.unclean % 2 ^ W == 0

/-- The element on the `W` wires, unchanged (R75). -/
def Bus.element (W : Nat) (b : Bus) : Nat := b.value % 2 ^ W

end Sys2Proof

namespace Sys2Proof.Machine

/-- `capacity = zext_PTR_W(C - 1)` (R76): `USABLE` in `PTR_W` bits. -/
def State.capacityPort (s : State) : Nat := s.params.usable % 2 ^ s.params.ptrW

/-- `OW = {push_ok, pop_ok, empty, full, pop_data}` (R74). -/
def Output.word (W : Nat) (o : Output) : Nat :=
  (o.pushOk.toNat * 8 + o.popOk.toNat * 4 + o.empty.toNat * 2 + o.full.toNat) * 2 ^ W + o.popData % 2 ^ W

end Sys2Proof.Machine
end

