-- ==== Sys2Proof/Machine/Flags.lean ====
section
/-! DEFINITION. The flags (10_state.md R29): none is stored, each is computed from the state before the edge; and the
result codes (60_exceptions.md R133). -/

namespace Sys2Proof.Machine

/-- `s.head == s.tail` (42_status.md R120). -/
def State.emptyFlag (s : State) : Bool := s.head == s.tail

/-- `((s.tail + 1) & MASK) == s.head` (42_status.md R121). -/
def State.fullFlag (s : State) : Bool := s.params.next s.tail == s.head

/-- The output `empty`: any value before the first reset edge (42_status.md R120). -/
def State.emptyPort (s : State) : Bool := if s.constructed then s.emptyFlag else Config.freeEmpty s.draws

/-- The output `full`: any value before the first reset edge (42_status.md R121). -/
def State.fullPort (s : State) : Bool := if s.constructed then s.fullFlag else Config.freeFull s.draws

/-- `push_ok = push_req and not full` (41_push_pop.md R100). -/
def State.pushOk (s : State) (pushReq : Bool) : Bool := pushReq && !s.fullFlag

/-- `pop_ok = pop_req and not empty` (41_push_pop.md R100). -/
def State.popOk (s : State) (popReq : Bool) : Bool := popReq && !s.emptyFlag

/-- `pop_data` outside an accepted pop: any `W`-bit value, drawn afresh in each cycle (42_status.md R123). -/
def State.freePopData (s : State) : Nat := Config.freePopData s.draws % 2 ^ s.params.W

/-- One side's result code (60_exceptions.md R133): 0 NONE, 1 OK, 2 FULL or EMPTY, 3 DROPPED. -/
def resultCode (rst req ok : Bool) : Nat :=
  if req then (if rst then 3 else if ok then 1 else 2) else 0

def CycleRecord.pushResult (r : CycleRecord) : Nat := resultCode r.rst r.pushReq r.out.pushOk

def CycleRecord.popResult (r : CycleRecord) : Nat := resultCode r.rst r.popReq r.out.popOk

end Sys2Proof.Machine
end

