-- ==== Sys2Proof/Machine/Cycle.lean ====
section
/-! DEFINITION. The two kinds of clock cycle, each said once: the data cycle of 41_push_pop.md R100 that NOP, POP, PUSH
and PUSH_POP share, and the reset cycle of 40_construct_reset.md R93 and R94. Every read is of the state before the
edge, every write lands at the edge (20_memory.md R57). -/

namespace Sys2Proof

/-- The requests a RESET drops (60_exceptions.md R134). -/
def Dropped.pushReq : Dropped → Bool
  | .none => false
  | .pop => false
  | .push _ => true
  | .pushPop _ => true

def Dropped.popReq : Dropped → Bool
  | .none => false
  | .pop => true
  | .push _ => false
  | .pushPop _ => true

end Sys2Proof

namespace Sys2Proof.Machine

/-- The outputs of a data cycle of a constructed block (R100). -/
def State.dataOutput (s : State) (pushReq popReq : Bool) : Output :=
  { pushOk := s.pushOk pushReq
    popOk := s.popOk popReq
    empty := s.emptyPort
    full := s.fullPort
    capacity := s.capacityPort
    popData := if s.popOk popReq then s.memRead s.head else s.freePopData }

/-- The record of a data cycle. -/
def State.dataRecord (s : State) (pushReq popReq : Bool) (data : Bus) : CycleRecord :=
  { rst := false
    pushReq := pushReq
    popReq := popReq
    constructed := s.constructed
    pushed := if s.pushOk pushReq then some (data.element s.params.W) else none
    out := s.dataOutput pushReq popReq }

/-- The producer's writes at the edge: slot `s.tail` and `tail`, if the push is accepted (R102). -/
def State.pushEdge (s : State) (pushReq : Bool) (data : Bus) (t : State) : State :=
  if s.pushOk pushReq then
    (t.memWrite s.tail (data.element s.params.W)).withTail (s.params.next s.tail)
  else t

/-- The consumer's write at the edge: `head`, if the pop is accepted (R103). -/
def State.popEdge (s : State) (popReq : Bool) (t : State) : State :=
  if s.popOk popReq then t.withHead (s.params.next s.head) else t

/-- The state after the edge of a data cycle: both sides' writes are those the state `s` before it decides. -/
def State.dataEdge (s : State) (pushReq popReq : Bool) (data : Bus) : State :=
  (s.popEdge popReq (s.pushEdge pushReq data s)).record (s.dataRecord pushReq popReq data)

/-- A data cycle (R100, in its order): refused before the first reset edge (40_construct_reset.md R96); refused when
the push is accepted and a data wire is unclean (30_encoding.md R80); otherwise the edge. -/
def dataCycle (pushReq popReq : Bool) (data : Bus) (s : State) : Host.Outcome State Fault Refusal :=
  if s.constructed then
    if s.pushOk pushReq && !data.clean s.params.W then .refused .inputUnknown
    else .next (s.dataEdge pushReq popReq data)
  else .refused .notConstructed

/-- The outputs of a RESET cycle (40_construct_reset.md R94): the status outputs show the state before the edge. -/
def State.resetOutput (s : State) : Output :=
  { pushOk := false
    popOk := false
    empty := s.emptyPort
    full := s.fullPort
    capacity := s.capacityPort
    popData := s.freePopData }

/-- The record of a RESET cycle. -/
def State.resetRecord (s : State) (pushReq popReq : Bool) : CycleRecord :=
  { rst := true
    pushReq := pushReq
    popReq := popReq
    constructed := s.constructed
    pushed := none
    out := s.resetOutput }

/-- The state after a reset edge (40_construct_reset.md R93): indices 0, constructed, storage not written. -/
def State.resetEdge (s : State) (pushReq popReq : Bool) : State :=
  (((s.withHead 0).withTail 0).markConstructed).record (s.resetRecord pushReq popReq)

/-- A RESET cycle, legal in every state (40_construct_reset.md R93). -/
def resetCycle (pushReq popReq : Bool) (s : State) : Host.Outcome State Fault Refusal :=
  .next (s.resetEdge pushReq popReq)

end Sys2Proof.Machine
end

