-- ==== Sys2Proof/Machine/Construct.lean ====
section
/-! DEFINITION. RESET and CONSTRUCT (40_construct_reset.md R90 to R97). -/

namespace Sys2Proof.Machine

/-- RESET, `cmd = 1--` (R93): the requests and the data are dropped (60_exceptions.md R134). -/
def execReset (dropped : Dropped) (s : State) : Host.Outcome State Fault Refusal :=
  resetCycle dropped.pushReq dropped.popReq s

/-- A newly elaborated block in the power-up state (10_state.md R39): `head`, `tail` and every slot unspecified, not
constructed, no cycle yet. The input stream and the free draws go on. -/
def State.powerUp (p : Params) (events : List Event) (draws : Nat) : State :=
  { params := p
    constructed := false
    head := Config.powerUpHead draws % 2 ^ p.ptrW
    tail := Config.powerUpTail draws % 2 ^ p.ptrW
    storage := []
    events := events
    trace := []
    lastSample := none
    draws := draws + 1
    powerUpId := draws }

/-- CONSTRUCT (R90): a block in the power-up state if the parameters are legal, `ConfigInvalid(C)` otherwise (R91).
The bound `MAX_LOG2_C` is the implementation's, so it stays. -/
def execConstruct (C W : Nat) (s : State) : Host.Outcome State Fault Refusal :=
  if h : Config.legal C W s.params.maxLog2C = true then
    .next (State.powerUp { C := C, W := W, maxLog2C := s.params.maxLog2C, legal := h } s.events s.draws)
  else .fault (.configInvalid C W s.params.maxLog2C)

end Sys2Proof.Machine
end

