-- ==== Sys2Proof/Machine/PushPop.lean ====
section
/-! DEFINITION. The data commands (41_push_pop.md R101 to R104): each is the data cycle of R100 with its requests. -/

namespace Sys2Proof.Machine

/-- NOP, `cmd = 000` (R101): no request. -/
def execNop (s : State) : Host.Outcome State Fault Refusal := dataCycle false false (Bus.ofNat 0) s

/-- POP, `cmd = 001` (R103). -/
def execPop (s : State) : Host.Outcome State Fault Refusal := dataCycle false true (Bus.ofNat 0) s

/-- PUSH, `cmd = 010` (R102). -/
def execPush (data : Bus) (s : State) : Host.Outcome State Fault Refusal := dataCycle true false data s

/-- PUSH_POP, `cmd = 011` (R104): both requests, each decided from the same state before the edge. -/
def execPushPop (data : Bus) (s : State) : Host.Outcome State Fault Refusal := dataCycle true true data s

end Sys2Proof.Machine
end

