-- ==== Sys2Proof/Machine/Status.lean ====
section
/-! DEFINITION. The status outputs (42_status.md R120 to R122), sampled by the environment between two edges. A
sampling has no side effect on the block (20_memory.md R56): it only leaves what it read in `lastSample`. -/

namespace Sys2Proof.Machine

/-- EMPTY (R120). -/
def execEmpty (s : State) : Host.Outcome State Fault Refusal := .next (s.withSample (.empty s.emptyPort))

/-- FULL (R121). -/
def execFull (s : State) : Host.Outcome State Fault Refusal := .next (s.withSample (.full s.fullPort))

/-- CAPACITY (R122). -/
def execCapacity (s : State) : Host.Outcome State Fault Refusal := .next (s.withSample (.capacity s.capacityPort))

end Sys2Proof.Machine
end

