-- ==== Sys2Proof/Machine/Dispatch.lean ====
section
/-! DEFINITION. One arm for each row of spec/opcode_table.json. -/

namespace Sys2Proof.Machine

def exec (i : Instr) (s : State) : Host.Outcome State Fault Refusal :=
  match i with
  | .nop => Sys2Proof.Machine.execNop s
  | .pop => Sys2Proof.Machine.execPop s
  | .push data => Sys2Proof.Machine.execPush data s
  | .pushPop data => Sys2Proof.Machine.execPushPop data s
  | .reset dropped => Sys2Proof.Machine.execReset dropped s
  | .empty => Sys2Proof.Machine.execEmpty s
  | .full => Sys2Proof.Machine.execFull s
  | .capacity => Sys2Proof.Machine.execCapacity s
  | .construct C W => Sys2Proof.Machine.execConstruct C W s

end Sys2Proof.Machine
end

