-- ==== Sys2Proof/Machine/Step.lean ====
section
/-! DEFINITION. One step: the next event of the environment's input stream is decoded and run.

The block fetches nothing (20_memory.md R65); its commands arrive on the ports (30_encoding.md R72). With no event left
no cycle happens and the state is held, as when `clk` stops (60_exceptions.md R148; log entry 2). -/

namespace Sys2Proof.Machine

def step (s : State) : Host.Outcome State Fault Refusal :=
  match s.events with
  | [] => .next s
  | e :: rest =>
    match decodeEvent e with
    | .ok i => exec i (s.withEvents rest)
    | .error _ => .refused .inputUnknown

/-- `s` with a command, given as a word numbered like spec/opcode_table.json, presented in the next cycle. -/
def State.withFetchWord (s : State) (_nbits w : Nat) : State := s.withEvents (.cycle (tableInput w) :: s.events)

end Sys2Proof.Machine
end

