-- ==== Sys2Proof/Machine/Interleaving.lean ====
section
/-! DEFINITION. The two threads of the source's software queue, split where they synchronise, to say how the outcome of
a cycle relates to the interleavings the source permits (20_memory.md R61): each thread first loads the other's index,
then decides on what it loaded and stores. -/

namespace Sys2Proof.Machine

/-- The queue's memory (the `head`, `tail` and `storage` of `block`), what each thread has loaded, and the results. -/
structure Software where
  block : State
  producerSaw : Option Nat
  consumerSaw : Option Nat
  /-- `some true` is `Ok`, `some false` is `Full`. -/
  pushResult : Option Bool
  /-- `some (some v)` is the element, `some none` is `Empty`. -/
  popResult : Option (Option Nat)
deriving DecidableEq, Repr

inductive ThreadStep where
  /-- The producer's acquire load of `head`. -/
  | producerLoad
  /-- The consumer's acquire load of `tail`. -/
  | consumerLoad
  /-- The producer's decision, its slot write and its release store of `tail`. -/
  | producerStore (v : Nat)
  /-- The consumer's decision, its slot read and its release store of `head`. -/
  | consumerStore
deriving DecidableEq, Repr

/-- One thread's step. A store step of a thread that has loaded nothing does nothing. -/
def Software.step (w : Software) : ThreadStep → Software
  | .producerLoad => { w with producerSaw := some w.block.head }
  | .consumerLoad => { w with consumerSaw := some w.block.tail }
  | .producerStore v =>
    match w.producerSaw with
    | none => w
    | some seen =>
      if w.block.params.next w.block.tail == seen then
        { w with producerSaw := none, pushResult := some false }
      else
        { w with
          block := (w.block.memWrite w.block.tail v).withTail (w.block.params.next w.block.tail)
          producerSaw := none
          pushResult := some true }
  | .consumerStore =>
    match w.consumerSaw with
    | none => w
    | some seen =>
      if w.block.head == seen then
        { w with consumerSaw := none, popResult := some none }
      else
        { w with
          block := w.block.withHead (w.block.params.next w.block.head)
          consumerSaw := none
          popResult := some (some (w.block.memRead w.block.head)) }

/-- The software queue between two operations, over a block's memory. -/
def Software.idle (s : State) : Software :=
  { block := s, producerSaw := none, consumerSaw := none, pushResult := none, popResult := none }

def Software.run (w : Software) (steps : List ThreadStep) : Software := steps.foldl Software.step w

end Sys2Proof.Machine
end

