-- ==== Sys2Proof/Machine/Listing.lean ====
section
/-! DEFINITION. Command syntax, pseudo-lines and listing rows (30_encoding.md R81, R82, R83). -/

namespace Sys2Proof.Machine

/-- A line of a program (R81, R82). -/
inductive Line where
  /-- Nothing, or a comment only. -/
  | blank
  | command (i : Instr)
  | idle (n : Nat)
  | construct (C : Nat)
deriving DecidableEq, Repr

/-- The events a line stands for: `idle n` is `n` NOPs, `construct C` is no cycle but the elaboration of the listing's
block, whose element width is `W` (R82). -/
def Line.events (W : Nat) : Line → List Event
  | .blank => []
  | .command i => [encodeEvent i]
  | .idle n => List.replicate n (encodeEvent .nop)
  | .construct C => [.elaborate C W]

/-- The events of a program, in line order. -/
def programEvents (W : Nat) (ls : List Line) : List Event := ls.flatMap (Line.events W)

/-! ## Printing -/

/-- The spelling of a command with clean data (R81); the status outputs and CONSTRUCT are no commands. -/
def Instr.spelling : Instr → Option String
  | .nop => some "nop"
  | .pop => some "pop"
  | .push data => some ("push " ++ toString data.value)
  | .pushPop data => some ("pushpop " ++ toString data.value)
  | .reset .none => some "reset"
  | .reset .pop => some "reset.pop"
  | .reset (.push data) => some ("reset.push " ++ toString data.value)
  | .reset (.pushPop data) => some ("reset.pushpop " ++ toString data.value)
  | .empty => none
  | .full => none
  | .capacity => none
  | .construct _ _ => none

/-! ## Reading -/

def isBlank (c : Char) : Bool := c == ' ' || c == '\t' || c == '\r'

/-- The words of a line, in lower case (mnemonics are case-insensitive), up to a comment's `;` (R81). `word` is the
word being read, last letter first. -/
def lineWords (word : List Char) : List Char → List (List Char)
  | [] => if word.isEmpty then [] else [word.reverse]
  | c :: cs =>
    if c == ';' then (if word.isEmpty then [] else [word.reverse])
    else if isBlank c then (if word.isEmpty then lineWords [] cs else word.reverse :: lineWords [] cs)
    else lineWords (c.toLower :: word) cs

/-- The value of a digit in a base, for a lower-case letter. -/
def digit? (base : Nat) (c : Char) : Option Nat :=
  let v := if c.toNat < 'a'.toNat then c.toNat - '0'.toNat else c.toNat - 'a'.toNat + 10
  if c.isDigit || (decide ('a'.toNat ≤ c.toNat) && decide (c.toNat ≤ 'f'.toNat)) then
    if v < base then some v else none
  else none

/-- The value of a run of digits after a value read so far. -/
def digits? (base acc : Nat) : List Char → Option Nat
  | [] => some acc
  | c :: cs =>
    match digit? base c with
    | some d => digits? base (acc * base + d) cs
    | none => none

/-- A decimal or `0x` hexadecimal number (R81). -/
def number? : List Char → Option Nat
  | [] => none
  | ['0', 'x'] => none
  | '0' :: 'x' :: ds => digits? 16 0 ds
  | ds => digits? 10 0 ds

/-- A value in `[0, 2^W)`, on clean wires (R81). -/
def value? (W : Nat) (word : List Char) : Option Bus :=
  match number? word with
  | some v => if v < 2 ^ W then some (Bus.ofNat v) else none
  | none => none

/-- A word that stands alone on its line. -/
def plainLine? (m : List Char) : Option Line :=
  if m = "nop".toList then some (.command .nop)
  else if m = "pop".toList then some (.command .pop)
  else if m = "reset".toList then some (.command (.reset .none))
  else if m = "reset.pop".toList then some (.command (.reset .pop))
  else none

/-- A mnemonic with its value. -/
def valueLine? (W : Nat) (m v : List Char) : Option Line :=
  if m = "push".toList then (value? W v).map fun d => .command (.push d)
  else if m = "pushpop".toList then (value? W v).map fun d => .command (.pushPop d)
  else if m = "reset.push".toList then (value? W v).map fun d => .command (.reset (.push d))
  else if m = "reset.pushpop".toList then (value? W v).map fun d => .command (.reset (.pushPop d))
  else if m = "idle".toList then
    match number? v with
    | some n => if 1 ≤ n then some (.idle n) else none
    | none => none
  else if m = "construct".toList then (number? v).map Line.construct
  else none

/-- Reading one line of a program for a block with `W`-bit elements; `none` where it is no line of R81 or R82. -/
def parseLine (W : Nat) (line : List Char) : Option Line :=
  match lineWords [] line with
  | [] => some .blank
  | [m] => plainLine? m
  | [m, v] => valueLine? W m v
  | _ => none

/-! ## Listings -/

/-- A row of a listing (R83): the cycle number, the spelling, the cycle word, the output word, and `head`, `tail` and
`count` after the edge. -/
structure ListingRow where
  t : Nat
  spelling : Option String
  cycleWord : Option Nat
  outputWord : Option Nat
  head : Nat
  tail : Nat
  count : Nat
deriving DecidableEq, Repr

/-- The row of a command that took the block from `before` to `after`. -/
def listingRow (i : Instr) (before after : State) : ListingRow :=
  { t := before.cycle
    spelling := Instr.spelling i
    cycleWord := encodeWord before.params.W i
    outputWord := after.trace.getLast?.map fun r => r.out.word before.params.W
    head := after.head
    tail := after.tail
    count := after.count }

end Sys2Proof.Machine
end

