-- ==== Sys2Proof/Safety.lean ====
section
/-! DEFINITION. The words the claims use: a ready block, the observation of a run, the history of accepted and returned
elements, the invariant of the machine, and when two states look alike from outside. -/

namespace Sys2Proof.Machine

/-- A constructed state: at least one reset edge since power-up, both indices in range (10_state.md R30). -/
abbrev State.Ready (s : State) : Prop :=
  s.constructed = true ∧ s.head < s.params.C ∧ s.tail < s.params.C

/-- `n` steps of the machine, stopping at the first fault or refusal (41_push_pop.md R114). -/
def runFor (n : Nat) (s : State) : Host.Outcome State Fault Refusal := Sys2Proof.core.run n s

/-- `n` steps from `s` meet no fault and no refusal. -/
def State.RunsSafely (s : State) (n : Nat) : Prop := ∃ t, runFor n s = .next t

/-! ## One cycle -/

/-- From `s` to `t` one clock cycle passed, with record `r`: the trace grew by `r` alone, the free draws moved on by
one, and nothing outside the block's registers and storage changed. -/
structure State.OneCycle (s t : State) (r : CycleRecord) : Prop where
  params : t.params = s.params
  events : t.events = s.events
  trace : t.trace = s.trace ++ [r]
  lastSample : t.lastSample = s.lastSample
  draws : t.draws = s.draws + 1
  powerUpId : t.powerUpId = s.powerUpId
  constructed : t.constructed = true

/-- `r` says which requests were made in a cycle of a constructed block with `rst = 0`. -/
structure CycleRecord.Requests (r : CycleRecord) (pushReq popReq : Bool) : Prop where
  rst : r.rst = false
  pushReq : r.pushReq = pushReq
  popReq : r.popReq = popReq
  constructed : r.constructed = true

/-- The status outputs in `r` are those of the state `s` before the edge: `empty` iff `head = tail`, `full` iff
`(tail + 1) mod C = head`, `capacity = C - 1` (42_status.md R120 to R122, in the words of 10_state.md R32, R33). -/
structure State.ShowsStatus (s : State) (r : CycleRecord) : Prop where
  empty : r.out.empty = decide (s.head = s.tail)
  full : r.out.full = decide ((s.tail + 1) % s.params.C = s.head)
  capacity : r.out.capacity = s.params.C - 1

/-! ## The observation of a run (41_push_pop.md R114) -/

/-- What a claim may read of a cycle's outputs: nothing that the spec leaves unconstrained. -/
structure Observed where
  pushOk : Bool
  popOk : Bool
  empty : Option Bool
  full : Option Bool
  capacity : Nat
  popData : Option Nat
deriving DecidableEq, Repr

/-- `pop_data` is observed in an accepted pop only, the flags from the first reset edge on (R114). -/
def CycleRecord.observed (r : CycleRecord) : Observed :=
  { pushOk := r.out.pushOk
    popOk := r.out.popOk
    empty := if r.constructed then some r.out.empty else none
    full := if r.constructed then some r.out.full else none
    capacity := r.out.capacity
    popData := if r.out.popOk then some r.out.popData else none }

/-- The output trace of the run so far (R114). -/
def State.observation (s : State) : List Observed := s.trace.map CycleRecord.observed

/-! ## The history since the last reset edge (41_push_pop.md R108) -/

/-- The element a cycle's accepted pop returned. -/
def CycleRecord.returned (r : CycleRecord) : Option Nat :=
  if r.out.popOk then some r.out.popData else none

/-- What a list of elements becomes over one cycle: a reset starts it anew, a new element joins at the end. -/
def historyStep (f : CycleRecord → Option Nat) (acc : List Nat) (r : CycleRecord) : List Nat :=
  if r.rst then [] else acc ++ (f r).toList

/-- The elements accepted by pushes since the last reset edge, in order. -/
def acceptedSinceReset (tr : List CycleRecord) : List Nat := tr.foldl (historyStep CycleRecord.pushed) []

/-- The elements returned by accepted pops since the last reset edge, in order. -/
def returnedSinceReset (tr : List CycleRecord) : List Nat := tr.foldl (historyStep CycleRecord.returned) []

/-! ## The invariant -/

/-- A record the block can have made: acceptance answers a request outside reset, the element taken and the element
shown fit in `W` bits, `capacity` is `C - 1`. -/
structure CycleRecord.WellMade (p : Params) (r : CycleRecord) : Prop where
  pushAnswers : r.out.pushOk = true → r.pushReq = true ∧ r.rst = false
  popAnswers : r.out.popOk = true → r.popReq = true ∧ r.rst = false
  pushedIffOk : r.pushed.isSome = r.out.pushOk
  pushedWidth : ∀ v, r.pushed = some v → v < 2 ^ p.W
  popDataWidth : r.out.popData < 2 ^ p.W
  capacityValue : r.out.capacity = p.C - 1

/-- The invariant: registers within `PTR_W` bits, indices in range once constructed (10_state.md R30), storage in
canonical form, the trace made of well-made records and empty before the first reset edge, and the FIFO history
(41_push_pop.md R108): what was accepted since the last reset is what was returned, then the queue. -/
structure State.Inv (s : State) : Prop where
  headWidth : s.head < 2 ^ s.params.ptrW
  tailWidth : s.tail < 2 ^ s.params.ptrW
  indices : s.constructed = true → s.head < s.params.C ∧ s.tail < s.params.C
  storageForm : Memory.wf s.params.C s.params.W s.storage = true
  records : ∀ r ∈ s.trace, CycleRecord.WellMade s.params r
  noCycleYet : s.constructed = false → s.trace = []
  fifo : s.constructed = true → acceptedSinceReset s.trace = returnedSinceReset s.trace ++ s.queue

/-! ## States that look alike (10_state.md R37) -/

/-- Two ready states with the same parameters, the same queue, the same inputs to come and the same observation so
far. Head position, stale slots, power-up contents and free draws may differ. -/
structure SameView (s t : State) : Prop where
  ready_left : s.Ready
  ready_right : t.Ready
  params : s.params = t.params
  queue : s.queue = t.queue
  events : s.events = t.events
  observation : s.observation = t.observation
  lastSample : s.lastSample = t.lastSample

/-- The same outcome as far as the outside can tell. -/
def SameOutcome : Host.Outcome State Fault Refusal → Host.Outcome State Fault Refusal → Prop
  | .next s, .next t => SameView s t
  | .fault a, .fault b => a = b
  | .refused a, .refused b => a = b
  | _, _ => False

/-- The stream elaborates no new block: one block's life. -/
def noElaboration (es : List Event) : Prop := ∀ C W, Event.elaborate C W ∉ es

end Sys2Proof.Machine
end

