-- ==== Sys2Proof/Certificates/Slice0/Obligations.lean ====
section
/-! DEFINITION. The statements for the provers. `C`, `W` and `MAX_LOG2_C` are whatever the state's parameters say, and
every free value is whatever it is: no statement rests on either. -/

open Sys2Proof Sys2Proof.Machine

/-! ## Encoding -/

/-- Cycle words written out from 30_encoding.md R73 and R77 (`W = 8`) decode to the commands they stand for. -/
def Obligations.SpecCycleWordsDecode : Prop :=
  decodeWord 8 0x000 = .ok .nop ∧
  decodeWord 8 0x100 = .ok .pop ∧
  decodeWord 8 0x20A = .ok (.push (Bus.ofNat 10)) ∧
  decodeWord 8 0x31E = .ok (.pushPop (Bus.ofNat 30)) ∧
  decodeWord 8 0x400 = .ok (.reset .none) ∧
  decodeWord 8 0x500 = .ok (.reset .pop) ∧
  decodeWord 8 0x607 = .ok (.reset (.push (Bus.ofNat 7))) ∧
  decodeWord 8 0x707 = .ok (.reset (.pushPop (Bus.ofNat 7)))

/-- The cycle word of every well-formed command is a `(W + 3)`-bit word and decodes to that command (R73, R77). -/
def Obligations.CycleWordRoundTrip : Prop :=
  ∀ (W cw : Nat) (i : Instr), i.wf W = true → encodeWord W i = some cw →
    cw < 2 ^ (W + 3) ∧ decodeWord W cw = .ok i

/-- Every clean well-formed command of the opcode map has a cycle word (R73): the round trip leaves none out. -/
def Obligations.EveryCommandHasCycleWord : Prop :=
  ∀ (W v : Nat), v < 2 ^ W →
    encodeWord W .nop = some 0 ∧
    encodeWord W .pop = some (2 ^ W) ∧
    encodeWord W (.push (Bus.ofNat v)) = some (2 * 2 ^ W + v) ∧
    encodeWord W (.pushPop (Bus.ofNat v)) = some (3 * 2 ^ W + v) ∧
    encodeWord W (.reset .none) = some (4 * 2 ^ W) ∧
    encodeWord W (.reset .pop) = some (5 * 2 ^ W) ∧
    encodeWord W (.reset (.push (Bus.ofNat v))) = some (6 * 2 ^ W + v) ∧
    encodeWord W (.reset (.pushPop (Bus.ofNat v))) = some (7 * 2 ^ W + v)

/-- No `cmd` value is reserved or illegal (R78): every `(W + 3)`-bit cycle word decodes to a well-formed command, and
that command's own cycle word is the same word, with `push_data` read as 0 where no push is requested (R81). -/
def Obligations.EveryCycleWordDecodes : Prop :=
  ∀ (W cw : Nat), cw < 2 ^ (W + 3) →
    ∃ i, decodeWord W cw = .ok i ∧ i.wf W = true ∧
      encodeWord W i = some (if cw.testBit (W + 1) then cw else cw - cw % 2 ^ W)

/-- A cycle whose `rst`, `push_req` or `pop_req` is not clean is refused; so is an accepted push with an unclean data
wire; and `push_data` that no push takes may be unclean (R80, with the step of 41_push_pop.md R100). -/
def Obligations.UncleanInputsRefused : Prop :=
  (∀ (s : State) (inp : CycleInput) (rest : List Event), s.events = .cycle inp :: rest →
    inp.rst.bit? = none ∨ inp.pushReq.bit? = none ∨ inp.popReq.bit? = none →
      step s = .refused .inputUnknown) ∧
  (∀ (s : State) (popReq : Bool) (data : Bus), s.constructed = true → (s.tail + 1) % s.params.C ≠ s.head →
    (∃ b, b < s.params.W ∧ data.unclean.testBit b = true) →
      exec (decodeCmd false true popReq data) s = .refused .inputUnknown) ∧
  (∀ (s : State) (popReq : Bool) (data : Bus), s.constructed = true → (s.tail + 1) % s.params.C = s.head →
    ∃ t, exec (decodeCmd false true popReq data) s = .next t) ∧
  (∀ (s : State) (popReq : Bool) (data : Bus), s.constructed = true →
    ∃ t, exec (decodeCmd false false popReq data) s = .next t) ∧
  (∀ (s : State) (pushReq popReq : Bool) (data : Bus),
    ∃ t, exec (decodeCmd true pushReq popReq data) s = .next t)

/-- `push_data` that no push takes has no effect on any output or state (R75): with `push_req = 0`, with `rst = 1`, or
when the push is rejected because `full = 1`, two cycles that differ in `push_data` alone have the same outcome. -/
def Obligations.IgnoredPushDataHasNoEffect : Prop :=
  ∀ (s : State) (rst pushReq popReq : Bool) (data data' : Bus) (rest : List Event),
    (rst = true ∨ pushReq = false ∨ (s.tail + 1) % s.params.C = s.head) →
      step (s.withEvents (.cycle (.clean rst pushReq popReq data) :: rest)) =
        step (s.withEvents (.cycle (.clean rst pushReq popReq data') :: rest))

/-! ## The step -/

/-- A step runs the instruction its next event decodes to, on the state with that event taken from the stream; and a
word numbered as the opcode table numbers it, presented in the next cycle, is run by the very next step. That the input
stream stands in the state and a step takes one event of it is the model's choice (log entry 2), and so is what the
bits of a table word from 3 up mean (log entry 9); the spec says only that inputs are parameters of the step
(00_scope.md R16) and that one command is presented in each cycle (30_encoding.md R72). -/
def Obligations.StepRunsDecodedInstruction : Prop :=
  (∀ (s : State) (e : Event) (rest : List Event) (i : Instr), s.events = e :: rest → decodeEvent e = .ok i →
    step s = exec i (s.withEvents rest)) ∧
  (∀ (s : State) (nbits w : Nat), ∃ i, decodeTableWord nbits w = some i ∧ step (s.withFetchWord nbits w) = exec i s)

/-- With no event left no cycle happens and the state is held. That an empty stream is a stopped clock
(60_exceptions.md R148) is the model's choice: log entry 2. -/
def Obligations.StepHoldsStateWithoutCycle : Prop :=
  ∀ s : State, s.events = [] → ∀ n, runFor n s = .next s

/-- A run that comes to a refused cycle is refused with that reason whatever its length from there on (41_push_pop.md
R114, 60_exceptions.md R136, R137): `InputUnknown` at a cycle with an unclean request wire, `NotConstructed` at a cycle
with `rst = 0` before the first reset edge, `InputUnknown` at an accepted push with an unclean data wire. That a run
answers the refusal alone is the model's form of it: log entry 13. -/
def Obligations.RefusalLastsForTheRun : Prop :=
  ∀ (s t : State) (n k : Nat), runFor n s = .next t →
    (∀ (inp : CycleInput) (rest : List Event), t.events = .cycle inp :: rest →
      inp.rst.bit? = none ∨ inp.pushReq.bit? = none ∨ inp.popReq.bit? = none →
        runFor (n + 1 + k) s = .refused .inputUnknown) ∧
    (∀ (p q : Bool) (data : Bus) (rest : List Event), t.events = .cycle (.clean false p q data) :: rest →
      t.constructed = false → runFor (n + 1 + k) s = .refused .notConstructed) ∧
    (∀ (q : Bool) (data : Bus) (rest : List Event), t.events = .cycle (.clean false true q data) :: rest →
      t.constructed = true → (t.tail + 1) % t.params.C ≠ t.head →
      (∃ b, b < t.params.W ∧ data.unclean.testBit b = true) →
        runFor (n + 1 + k) s = .refused .inputUnknown)

/-! ## Data commands -/

/-- NOP completes in every constructed state and writes no state: only its record joins the trace (R101). -/
def Obligations.NopCompletesAndWritesNothing : Prop :=
  ∀ s : State, s.constructed = true →
    ∃ t r, exec .nop s = .next t ∧ s.OneCycle t r ∧ r.Requests false false ∧ s.ShowsStatus r ∧
      t.head = s.head ∧ t.tail = s.tail ∧ t.storage = s.storage ∧ (∀ j, t.memRead j = s.memRead j) ∧
      r.out.pushOk = false ∧ r.out.popOk = false ∧ r.pushed = none

/-- PUSH with room: the element is stored unchanged in slot `tail`, `tail` becomes `(tail + 1) mod C`, and nothing else
of the block changes (R102). -/
def Obligations.PushStoresElement : Prop :=
  ∀ (s : State) (data : Bus), s.constructed = true → (s.tail + 1) % s.params.C ≠ s.head →
    data.unclean % 2 ^ s.params.W = 0 →
    ∃ t r, exec (.push data) s = .next t ∧ s.OneCycle t r ∧ r.Requests true false ∧ s.ShowsStatus r ∧
      t.memRead s.tail = data.value % 2 ^ s.params.W ∧ (∀ j, j ≠ s.tail → t.memRead j = s.memRead j) ∧
      t.tail = (s.tail + 1) % s.params.C ∧ t.head = s.head ∧
      r.out.pushOk = true ∧ r.out.popOk = false ∧ r.pushed = some (data.value % 2 ^ s.params.W)

/-- PUSH into a full buffer is the result `Full`: `push_ok = 0`, `full = 1`, no state change, the element not stored,
whatever the data wires carry (R131). -/
def Obligations.PushWhenFullChangesNothing : Prop :=
  ∀ (s : State) (data : Bus), s.constructed = true → (s.tail + 1) % s.params.C = s.head →
    ∃ t r, exec (.push data) s = .next t ∧ s.OneCycle t r ∧ r.Requests true false ∧ s.ShowsStatus r ∧
      t.head = s.head ∧ t.tail = s.tail ∧ t.storage = s.storage ∧ (∀ j, t.memRead j = s.memRead j) ∧
      r.out.pushOk = false ∧ r.out.popOk = false ∧ r.out.full = true ∧ r.pushed = none ∧ r.pushResult = 2

/-- POP of a non-empty buffer: the element of slot `head` is returned in the same cycle, `head` becomes
`(head + 1) mod C`, and nothing else of the block changes: the slot keeps its bits (R103, R27). -/
def Obligations.PopReturnsElement : Prop :=
  ∀ s : State, s.constructed = true → s.head ≠ s.tail →
    ∃ t r, exec .pop s = .next t ∧ s.OneCycle t r ∧ r.Requests false true ∧ s.ShowsStatus r ∧
      r.out.popOk = true ∧ r.out.popData = s.memRead s.head ∧
      t.head = (s.head + 1) % s.params.C ∧ t.tail = s.tail ∧ t.storage = s.storage ∧
      (∀ j, t.memRead j = s.memRead j) ∧ r.out.pushOk = false ∧ r.pushed = none

/-- PUSH_POP with room and not empty accepts both: the element goes to slot `tail`, the element of slot `head` is
returned, both indices move on by one modulo `C`, and nothing else of the block changes (R104). -/
def Obligations.PushPopDoesBoth : Prop :=
  ∀ (s : State) (data : Bus), s.constructed = true → (s.tail + 1) % s.params.C ≠ s.head → s.head ≠ s.tail →
    data.unclean % 2 ^ s.params.W = 0 →
    ∃ t r, exec (.pushPop data) s = .next t ∧ s.OneCycle t r ∧ r.Requests true true ∧ s.ShowsStatus r ∧
      t.memRead s.tail = data.value % 2 ^ s.params.W ∧ (∀ j, j ≠ s.tail → t.memRead j = s.memRead j) ∧
      t.tail = (s.tail + 1) % s.params.C ∧ t.head = (s.head + 1) % s.params.C ∧
      r.out.pushOk = true ∧ r.pushed = some (data.value % 2 ^ s.params.W) ∧
      r.out.popOk = true ∧ r.out.popData = s.memRead s.head

/-- PUSH_POP when one side is turned away: the other side's accepted request still takes effect, each as if it were
alone (R104, 60_exceptions.md R139, R140). Empty: the push is accepted and the pop is `Empty`. Full: the push is `Full`
and the pop is accepted. Both (possible only when `C = 1`): no state change. -/
def Obligations.PushPopDecidesEachSideAlone : Prop :=
  ∀ (s : State) (data : Bus), s.constructed = true →
    ((s.tail + 1) % s.params.C ≠ s.head → s.head = s.tail → data.unclean % 2 ^ s.params.W = 0 →
      ∃ t r, exec (.pushPop data) s = .next t ∧ s.OneCycle t r ∧ r.Requests true true ∧ s.ShowsStatus r ∧
        t.memRead s.tail = data.value % 2 ^ s.params.W ∧ (∀ j, j ≠ s.tail → t.memRead j = s.memRead j) ∧
        t.tail = (s.tail + 1) % s.params.C ∧ t.head = s.head ∧
        r.pushResult = 1 ∧ r.popResult = 2 ∧ r.pushed = some (data.value % 2 ^ s.params.W)) ∧
    ((s.tail + 1) % s.params.C = s.head → s.head ≠ s.tail →
      ∃ t r, exec (.pushPop data) s = .next t ∧ s.OneCycle t r ∧ r.Requests true true ∧ s.ShowsStatus r ∧
        t.head = (s.head + 1) % s.params.C ∧ t.tail = s.tail ∧ t.storage = s.storage ∧
        (∀ j, t.memRead j = s.memRead j) ∧
        r.pushResult = 2 ∧ r.popResult = 1 ∧ r.pushed = none ∧ r.out.popData = s.memRead s.head) ∧
    ((s.tail + 1) % s.params.C = s.head → s.head = s.tail →
      ∃ t r, exec (.pushPop data) s = .next t ∧ s.OneCycle t r ∧ r.Requests true true ∧ s.ShowsStatus r ∧
        t.head = s.head ∧ t.tail = s.tail ∧ t.storage = s.storage ∧ (∀ j, t.memRead j = s.memRead j) ∧
        r.pushResult = 2 ∧ r.popResult = 2 ∧ r.pushed = none)

/-- A POP right after RESET, or whenever `head = tail`, gets `pop_ok = 0` (`Empty`) and changes no state (R111). -/
def Obligations.EmptyDetection : Prop :=
  (∀ s : State, s.constructed = true → s.head = s.tail →
    ∃ t r, exec .pop s = .next t ∧ s.OneCycle t r ∧ r.Requests false true ∧ s.ShowsStatus r ∧
      t.head = s.head ∧ t.tail = s.tail ∧ t.storage = s.storage ∧ (∀ j, t.memRead j = s.memRead j) ∧
      r.out.popOk = false ∧ r.popResult = 2) ∧
  (∀ (s : State) (dropped : Dropped), ∃ t, exec (.reset dropped) s = .next t ∧
    ∃ u r, exec .pop t = .next u ∧ t.OneCycle u r ∧
      u.head = t.head ∧ u.tail = t.tail ∧ u.storage = t.storage ∧ r.out.popOk = false ∧ r.popResult = 2)

/-- Every data command completes in the cycle it is presented: a constructed block with clean data never stalls, faults
or refuses, and the cycle number goes on by exactly one (R115, 10_state.md R23). -/
def Obligations.EveryDataCommandTakesOneCycle : Prop :=
  ∀ (s : State) (pushReq popReq : Bool) (data : Bus), s.constructed = true → data.unclean % 2 ^ s.params.W = 0 →
    ∃ t, exec (decodeCmd false pushReq popReq data) s = .next t ∧ t.cycle = s.cycle + 1 ∧ t.constructed = true

/-! ## Construction and reset -/

/-- RESET completes in every state: both indices become 0, the block is constructed, no slot is written, and from the
next cycle on `empty = 1`, and `full = 1` exactly when `C = 1` (R93). -/
def Obligations.ResetClearsIndices : Prop :=
  ∀ (s : State) (dropped : Dropped),
    ∃ t r, exec (.reset dropped) s = .next t ∧ s.OneCycle t r ∧ t.head = 0 ∧ t.tail = 0 ∧ t.storage = s.storage ∧
      (∀ j, t.memRead j = s.memRead j) ∧ t.queue = [] ∧ t.emptyPort = true ∧
      (t.fullPort = true ↔ t.params.C = 1)

/-- The outputs of a RESET cycle: both requests answered 0, `pop_data` some `W`-bit value, the status outputs those of
the state before the edge once the block is constructed, `capacity = C - 1` always (R94). -/
def Obligations.ResetCycleOutputs : Prop :=
  ∀ (s : State) (dropped : Dropped),
    ∃ t r, exec (.reset dropped) s = .next t ∧ t.trace = s.trace ++ [r] ∧
      r.out.pushOk = false ∧ r.out.popOk = false ∧ r.out.popData < 2 ^ s.params.W ∧
      (s.constructed = true → r.out.empty = decide (s.head = s.tail) ∧
        r.out.full = decide ((s.tail + 1) % s.params.C = s.head)) ∧
      r.out.capacity = s.params.C - 1

/-- Requests in a RESET cycle are dropped: both are answered 0, nothing is stored and nothing is popped; the result code
of a dropped request is 3, and a request that was not made gets 0 (60_exceptions.md R134). -/
def Obligations.ResetDropsRequests : Prop :=
  ∀ (s : State) (pushReq popReq : Bool) (data : Bus),
    ∃ t r, exec (decodeCmd true pushReq popReq data) s = .next t ∧ t.trace = s.trace ++ [r] ∧
      r.out.pushOk = false ∧ r.out.popOk = false ∧ r.pushed = none ∧ r.returned = none ∧ t.storage = s.storage ∧
      (∀ j, t.memRead j = s.memRead j) ∧
      r.pushResult = (if pushReq then 3 else 0) ∧ r.popResult = (if popReq then 3 else 0)

/-- While `constructed = 0`, a cycle with `rst = 0` is refused `NotConstructed`, and a cycle with `rst = 1` is a RESET:
indices 0, constructed, no slot written, both requests answered 0, `capacity = C - 1`, and no more said of its other
outputs than that `pop_data` has `W` bits (R96). -/
def Obligations.CyclesBeforeFirstReset : Prop :=
  ∀ (s : State) (pushReq popReq : Bool) (data : Bus) (rest : List Event), s.constructed = false →
    step (s.withEvents (.cycle (.clean false pushReq popReq data) :: rest)) = .refused .notConstructed ∧
    ∃ t r, step (s.withEvents (.cycle (.clean true pushReq popReq data) :: rest)) = .next t ∧
      t.trace = s.trace ++ [r] ∧ t.head = 0 ∧ t.tail = 0 ∧ t.constructed = true ∧ t.storage = s.storage ∧
      r.out.pushOk = false ∧ r.out.popOk = false ∧ r.out.capacity = s.params.C - 1 ∧
      r.out.popData < 2 ^ s.params.W

/-- CONSTRUCT completes exactly when `C` is a power of two at most `2 ^ MAX_LOG2_C` and `W >= 1`; otherwise it is the
fault `ConfigInvalid` with the offending parameters, never a rounded or adjusted block (R90, R91, R135). -/
def Obligations.ConstructFaultsExactlyWhenInvalid : Prop :=
  ∀ (s : State) (C W : Nat),
    ((∃ k, C = 2 ^ k ∧ k ≤ s.params.maxLog2C) ∧ 1 ≤ W →
      ∃ t, exec (.construct C W) s = .next t ∧ t.params.C = C ∧ t.params.W = W ∧
        t.params.maxLog2C = s.params.maxLog2C ∧ t.constructed = false) ∧
    (¬ ((∃ k, C = 2 ^ k ∧ k ≤ s.params.maxLog2C) ∧ 1 ≤ W) →
      exec (.construct C W) s = .fault (.configInvalid C W s.params.maxLog2C))

/-- A newly elaborated block is in the power-up state: indices within their registers and no more said of them, no slot
written, no cycle yet, and its first reset edge makes it ready (R39, R90, R95). That it keeps the input stream and
starts a new trace is the model's choice: log entry 8. -/
def Obligations.ConstructGivesPowerUpState : Prop :=
  ∀ (s t : State) (C W : Nat), exec (.construct C W) s = .next t →
    t.constructed = false ∧ t.head < 2 ^ t.params.ptrW ∧ t.tail < 2 ^ t.params.ptrW ∧ t.storage = [] ∧
    t.events = s.events ∧ t.trace = [] ∧ t.lastSample = none ∧ t.Inv ∧
    ∀ dropped, ∃ u, exec (.reset dropped) t = .next u ∧ u.Ready ∧ u.params = t.params ∧ u.queue = []

/-! ## Status outputs -/

/-- EMPTY, sampled in a constructed state, reads 1 iff `head = tail`, and 1 exactly when a pop in that state would be
`Empty`; sampling changes nothing of the block (R120, 20_memory.md R56). -/
def Obligations.EmptySampleIsExact : Prop :=
  ∀ s : State, s.constructed = true →
    exec .empty s = .next (s.withSample (.empty (decide (s.head = s.tail)))) ∧
    (s.emptyPort = true ↔ ∃ t r, exec .pop s = .next t ∧ s.OneCycle t r ∧ r.popResult = 2)

/-- FULL, sampled in a constructed state, reads 1 iff `(tail + 1) mod C = head`, and 1 exactly when a push in that state
would be `Full`; sampling changes nothing of the block (R121). -/
def Obligations.FullSampleIsExact : Prop :=
  ∀ s : State, s.constructed = true →
    exec .full s = .next (s.withSample (.full (decide ((s.tail + 1) % s.params.C = s.head)))) ∧
    ∀ data : Bus, s.fullPort = true ↔ ∃ t r, exec (.push data) s = .next t ∧ s.OneCycle t r ∧ r.pushResult = 2

/-- CAPACITY reads `C - 1` in every state, before the first reset edge too; sampling changes nothing of the block
(R122). -/
def Obligations.CapacitySampleIsConstant : Prop :=
  ∀ s : State, exec .capacity s = .next (s.withSample (.capacity (s.params.C - 1)))

/-- EMPTY and FULL complete before the first reset edge too, and change nothing of the block; what they read is a free
value (R120, R121). -/
def Obligations.FlagSamplesCompleteBeforeReset : Prop :=
  ∀ s : State, ∃ b c, exec .empty s = .next (s.withSample (.empty b)) ∧ exec .full s = .next (s.withSample (.full c))

/-- `capacity = zext_PTR_W(C - 1)`: for `k >= 1` it is `C - 1`, all ones in `PTR_W = k` bits; for `k = 0` the single bit
0 (R76). -/
def Obligations.CapacityAssembly : Prop :=
  ∀ s : State,
    s.capacityPort = (s.params.C - 1) % 2 ^ s.params.ptrW ∧
    (1 ≤ s.params.k → s.params.ptrW = s.params.k ∧ s.capacityPort = s.params.C - 1 ∧
      s.capacityPort = 2 ^ s.params.k - 1) ∧
    (s.params.k = 0 → s.params.ptrW = 1 ∧ s.capacityPort = 0)

/-- `empty = 1` and `full = 1` hold together only when `C = 1`; for `C >= 2` the pair is `(1, 0)` at count 0, `(0, 1)`
at count `C - 1`, `(0, 0)` otherwise (R125). -/
def Obligations.FlagsTogether : Prop :=
  ∀ s : State, s.Ready →
    (s.emptyPort = true ∧ s.fullPort = true → s.params.C = 1) ∧
    (2 ≤ s.params.C →
      (s.count = 0 → s.emptyPort = true ∧ s.fullPort = false) ∧
      (s.count = s.params.C - 1 → s.emptyPort = false ∧ s.fullPort = true) ∧
      (s.count ≠ 0 → s.count ≠ s.params.C - 1 → s.emptyPort = false ∧ s.fullPort = false))

/-- In two consecutive cycles of which the first accepts no push and no pop and is no RESET, `empty`, `full` and
`capacity` have the same values (R124). -/
def Obligations.StatusIdempotent : Prop :=
  ∀ (s t u : State) (p q p' q' rst' : Bool) (d d' : Bus) (r r' : CycleRecord),
    exec (decodeCmd false p q d) s = .next t → t.trace = s.trace ++ [r] →
    r.out.pushOk = false → r.out.popOk = false →
    exec (decodeCmd rst' p' q' d') t = .next u → u.trace = t.trace ++ [r'] →
      r'.out.empty = r.out.empty ∧ r'.out.full = r.out.full ∧ r'.out.capacity = r.out.capacity

/-- A flag changes only in the direction its side moves it: `empty` from 1 to 0 through an accepted push, from 0 to 1
through an accepted pop or a RESET; `full` from 1 to 0 through an accepted pop or a RESET, from 0 to 1 through an
accepted push (R169). -/
def Obligations.FlagsMoveOnlyByTheirSide : Prop :=
  ∀ (s t : State) (rst p q : Bool) (d : Bus) (r : CycleRecord), s.Ready →
    exec (decodeCmd rst p q d) s = .next t → t.trace = s.trace ++ [r] →
    (s.emptyPort = true → t.emptyPort = false → r.out.pushOk = true) ∧
    (s.emptyPort = false → t.emptyPort = true → r.out.popOk = true ∨ r.rst = true) ∧
    (s.fullPort = true → t.fullPort = false → r.out.popOk = true ∨ r.rst = true) ∧
    (s.fullPort = false → t.fullPort = true → r.out.pushOk = true)

/-! ## Index arithmetic and counts -/

/-- `next(x)` is `x + 1` below `C - 1` and 0 at `C - 1`, and it stays in range (R105). -/
def Obligations.IndexIncrementWraps : Prop :=
  ∀ (p : Params) (x : Nat), x < p.C →
    p.next x < p.C ∧ (x < p.C - 1 → p.next x = x + 1) ∧ (x = p.C - 1 → p.next x = 0) ∧
    (p.C = 1 → p.next x = 0)

/-- The buffer is empty iff `head = tail`; equivalently, the count is 0 (R32). -/
def Obligations.EmptyIffCountZero : Prop :=
  ∀ s : State, s.Ready →
    (s.emptyPort = true ↔ s.head = s.tail) ∧ (s.emptyPort = true ↔ s.count = 0)

/-- The buffer is full iff `(tail + 1) mod C = head`; for `C >= 2` equivalently the count is `C - 1`; for `C = 1` it
always is, and then the count is 0 too (R33). -/
def Obligations.FullIffOneSlotLeft : Prop :=
  ∀ s : State, s.Ready →
    (s.fullPort = true ↔ (s.tail + 1) % s.params.C = s.head) ∧
    (2 ≤ s.params.C → (s.fullPort = true ↔ s.count = s.params.C - 1)) ∧
    (s.params.C = 1 → s.fullPort = true ∧ s.count = 0 ∧ s.count = s.params.C - 1)

/-- The count is `(tail - head) mod C`, and at most `C - 1` (R31). -/
def Obligations.CountIsDifferenceModC : Prop :=
  ∀ s : State, s.Ready →
    s.count < s.params.C ∧ (s.head ≤ s.tail → s.count = s.tail - s.head) ∧
    (s.tail < s.head → s.count + s.head = s.tail + s.params.C) ∧ s.queue.length = s.count

/-- In a constructed cycle with `rst = 0` the count changes by `push_ok - pop_ok` exactly, it never falls below 0 or
rises above `C - 1`, and after a RESET edge it is 0 (R106). -/
def Obligations.CountLaw : Prop :=
  (∀ (s t : State) (p q : Bool) (d : Bus) (r : CycleRecord), s.Ready →
    exec (decodeCmd false p q d) s = .next t → t.trace = s.trace ++ [r] →
      t.count + r.out.popOk.toNat = s.count + r.out.pushOk.toNat ∧ t.count ≤ t.params.C - 1 ∧
      (r.out.popOk = true → 0 < s.count) ∧ (r.out.pushOk = true → s.count < s.params.C - 1)) ∧
  (∀ (s t : State) (dropped : Dropped), exec (.reset dropped) s = .next t → t.count = 0)

/-- In a cycle where a push and a pop are both accepted, the slot written and the slot read differ, and the count is
strictly between 0 and `C - 1` (R62). -/
def Obligations.NoSharedSlotInACycle : Prop :=
  ∀ (s t : State) (data : Bus) (r : CycleRecord), s.Ready → exec (.pushPop data) s = .next t →
    t.trace = s.trace ++ [r] → r.out.pushOk = true → r.out.popOk = true →
      s.tail ≠ s.head ∧ 0 < s.count ∧ s.count < s.params.C - 1

/-- An accepted push never writes a live slot, and every live element but one popped in that cycle is still there after
the edge; a push into a full buffer is `Full` even when a pop is accepted in the same cycle (R59). -/
def Obligations.PushNeverWritesLiveSlot : Prop :=
  ∀ (s t : State) (q : Bool) (data : Bus) (r : CycleRecord), s.Ready →
    exec (decodeCmd false true q data) s = .next t → t.trace = s.trace ++ [r] →
      (∀ j, j < s.count → t.memRead (s.liveSlot j) = s.memRead (s.liveSlot j)) ∧
      (r.out.pushOk = true → ∀ j, j < s.count → s.liveSlot j ≠ s.tail) ∧
      (s.fullPort = true → r.pushResult = 2)

/-- With `C = 1`, in every constructed state with legal indices both indices are 0, and in every cycle (a RESET too)
they stay 0, both flags are 1, the slot is not written and `capacity = 0`; every push request with `rst = 0` is `Full`
and every pop request `Empty` (R92). -/
def Obligations.DegenerateSizeOne : Prop :=
  ∀ (s : State) (rst p q : Bool) (data : Bus), s.Ready → s.params.C = 1 →
    s.params.k = 0 ∧ s.params.ptrW = 1 ∧ s.params.mask = 0 ∧ s.params.usable = 0 ∧
    s.head = 0 ∧ s.tail = 0 ∧
    ∃ t r, exec (decodeCmd rst p q data) s = .next t ∧ s.OneCycle t r ∧
      r.out.pushOk = false ∧ r.out.popOk = false ∧ r.out.empty = true ∧ r.out.full = true ∧ r.out.capacity = 0 ∧
      (rst = false → r.pushResult = (if p then 2 else 0) ∧ r.popResult = (if q then 2 else 0)) ∧
      t.head = 0 ∧ t.tail = 0 ∧ t.storage = s.storage

/-- Result codes: 0 without a request, 1 for an accepted request, 2 for a rejected one, 3 for one dropped by reset, as
the table of 60_exceptions.md R133 computes them from `rst`, the request and its answer. -/
def Obligations.ResultCodes : Prop :=
  ∀ (s t : State) (rst p q : Bool) (data : Bus) (r : CycleRecord),
    exec (decodeCmd rst p q data) s = .next t → t.trace = s.trace ++ [r] →
      r.rst = rst ∧ r.pushReq = p ∧ r.popReq = q ∧
      (r.pushResult = 0 ↔ p = false) ∧ (r.pushResult = 1 ↔ rst = false ∧ p = true ∧ r.out.pushOk = true) ∧
      (r.pushResult = 2 ↔ rst = false ∧ p = true ∧ r.out.pushOk = false) ∧
      (r.pushResult = 3 ↔ rst = true ∧ p = true) ∧
      (r.popResult = 0 ↔ q = false) ∧ (r.popResult = 1 ↔ rst = false ∧ q = true ∧ r.out.popOk = true) ∧
      (r.popResult = 2 ↔ rst = false ∧ q = true ∧ r.out.popOk = false) ∧
      (r.popResult = 3 ↔ rst = true ∧ q = true)

/-! ## The whole machine -/

/-- Single writer per index: `head` changes only by POP, PUSH_POP or RESET; `tail` only by PUSH, PUSH_POP or RESET;
storage only by PUSH or PUSH_POP, and then only slot `tail` (R35; elaboration of a new block apart). -/
def Obligations.SingleWriterPerIndex : Prop :=
  ∀ (s t : State) (i : Instr), (∀ C W, i ≠ .construct C W) → exec i s = .next t →
    (t.head ≠ s.head → i = .pop ∨ (∃ d, i = .pushPop d) ∨ ∃ x, i = .reset x) ∧
    (t.tail ≠ s.tail → (∃ d, i = .push d) ∨ (∃ d, i = .pushPop d) ∨ ∃ x, i = .reset x) ∧
    (∀ j, t.memRead j ≠ s.memRead j → j = s.tail ∧ ((∃ d, i = .push d) ∨ ∃ d, i = .pushPop d))

/-- Only CONSTRUCT changes the parameters or clears `constructed`; only RESET sets it (R21, R28). -/
def Obligations.OnlyElaborationChangesParameters : Prop :=
  ∀ (s t : State) (i : Instr), exec i s = .next t →
    (t.params ≠ s.params → ∃ C W, i = .construct C W) ∧
    (s.constructed = true → t.constructed = false → ∃ C W, i = .construct C W) ∧
    (s.constructed = false → t.constructed = true → ∃ x, i = .reset x)

/-- Only CONSTRUCT can fault, and only a data command can refuse: any of the four before the first reset edge, and one
whose push is accepted with an unclean data wire (60_exceptions.md R136, R137). -/
def Obligations.OnlyNamedStops : Prop :=
  ∀ (s : State) (i : Instr),
    (∀ f, exec i s = .fault f → ∃ C W, i = .construct C W ∧ f = .configInvalid C W s.params.maxLog2C) ∧
    (∀ r, exec i s = .refused r →
      (r = .notConstructed ∧ s.constructed = false ∧
        (i = .nop ∨ i = .pop ∨ (∃ d, i = .push d) ∨ ∃ d, i = .pushPop d)) ∨
      (r = .inputUnknown ∧ s.constructed = true ∧ (s.tail + 1) % s.params.C ≠ s.head ∧
        ∃ d, (i = .push d ∨ i = .pushPop d) ∧ d.unclean % 2 ^ s.params.W ≠ 0))

/-- The invariant holds right after reset (R38), and at power-up with any parameters (R39). -/
def Obligations.InvariantAtResetAndPowerUp : Prop :=
  State.reset.Inv ∧ ∀ (p : Params) (es : List Event) (n : Nat), (State.powerUp p es n).Inv

/-- Every step keeps the invariant: registers within `PTR_W` bits, indices in range once constructed, storage in
canonical form, well-made records, and the FIFO history (R30, R34, R108). -/
def Obligations.StepKeepsInvariant : Prop :=
  ∀ s t : State, s.Inv → step s = .next t → t.Inv

/-- In every constructed state of a run, both indices are below `C`; RESET sets both to 0, every other write of an
index is `(x + 1) & MASK`, and for `C = 1` both are always 0 (R30). -/
def Obligations.IndicesStayInRange : Prop :=
  (∀ (s t : State) (n : Nat), s.Inv → runFor n s = .next t → t.constructed = true →
    t.head < t.params.C ∧ t.tail < t.params.C ∧ (t.params.C = 1 → t.head = 0 ∧ t.tail = 0)) ∧
  (∀ (s t : State) (dropped : Dropped), exec (.reset dropped) s = .next t → t.head = 0 ∧ t.tail = 0) ∧
  (∀ (s t : State) (i : Instr), (∀ x, i ≠ .reset x) → (∀ C W, i ≠ .construct C W) → exec i s = .next t →
    (t.head ≠ s.head → t.head = (s.head + 1) &&& s.params.mask) ∧
    (t.tail ≠ s.tail → t.tail = (s.tail + 1) &&& s.params.mask))

/-- Every constructed cycle with `rst = 0` refines the queue transition: flags, answers, the popped element and the new
queue are those of a bounded FIFO queue of capacity `C - 1`; after a RESET edge the queue is empty (R107). -/
def Obligations.CycleRefinesQueue : Prop :=
  (∀ (s : State) (p q : Bool) (data : Bus), s.Ready → data.unclean % 2 ^ s.params.W = 0 →
    ∃ t r, exec (decodeCmd false p q data) s = .next t ∧ s.OneCycle t r ∧ t.Ready ∧
      r.out.empty = decide (s.queue = []) ∧
      r.out.full = decide (s.queue.length = s.params.C - 1) ∧
      r.out.pushOk = (p && decide (s.queue.length < s.params.C - 1)) ∧
      r.out.popOk = (q && decide (s.queue ≠ [])) ∧
      (r.out.popOk = true → s.queue.head? = some r.out.popData) ∧
      t.queue = (if r.out.popOk then s.queue.drop 1 else s.queue) ++
        (if r.out.pushOk then [data.value % 2 ^ s.params.W] else [])) ∧
  (∀ (s t : State) (dropped : Dropped), exec (.reset dropped) s = .next t → t.queue = [])

/-- FIFO order over any run: what accepted pops returned since the last reset, followed by what is in the queue, is
what pushes were accepted since then, in the same order; so the returned sequence is at every cycle a prefix of the
accepted one (R108). -/
def Obligations.FifoOrderOverRuns : Prop :=
  ∀ (s t : State) (n : Nat), s.Inv → runFor n s = .next t → t.constructed = true →
    acceptedSinceReset t.trace = returnedSinceReset t.trace ++ t.queue ∧
    returnedSinceReset t.trace <+: acceptedSinceReset t.trace

/-- After any run, whatever the order of pushes and pops, the elements accepted since the last reset edge are at most
`C - 1` more than those returned; these are the live ones, the queue; and `capacity` reads `C - 1` in every cycle
(R109). -/
def Obligations.CapacityInvariant : Prop :=
  ∀ (s t : State) (n : Nat), s.Inv → runFor n s = .next t →
    (acceptedSinceReset t.trace).length ≤ (returnedSinceReset t.trace).length + (t.params.C - 1) ∧
    (t.constructed = true →
      (acceptedSinceReset t.trace).length = (returnedSinceReset t.trace).length + t.queue.length) ∧
    t.capacityPort = t.params.C - 1 ∧
    ∀ r ∈ t.trace, r.out.capacity = t.params.C - 1

/-- Full detection, back to back: from an empty ready state, a stream of `C - 1` pushes is accepted whole; the push right
after it is `Full` and leaves the queue unchanged; and the pop right after that returns the first pushed element. It is
R110 for one shape of stream; `FullDetectionAmongOtherCycles` has the other cycles R110 allows in between. -/
def Obligations.FullDetection : Prop :=
  ∀ (s : State) (vs : List Nat) (w : Nat) (rest : List Event), s.Ready → s.queue = [] →
    vs.length = s.params.C - 1 → (∀ v ∈ vs, v < 2 ^ s.params.W) → w < 2 ^ s.params.W →
    s.events = (vs ++ [w]).map (fun v => encodeEvent (.push (Bus.ofNat v))) ++ encodeEvent .pop :: rest →
    ∃ t u x rs r r', runFor vs.length s = .next t ∧ t.trace = s.trace ++ rs ∧ rs.length = vs.length ∧
      (∀ a ∈ rs, a.out.pushOk = true) ∧ t.queue = vs ∧
      step t = .next u ∧ u.trace = t.trace ++ [r] ∧ r.out.pushOk = false ∧ r.pushResult = 2 ∧ u.queue = vs ∧
      step u = .next x ∧ x.trace = u.trace ++ [r'] ∧
      (∀ v, vs.head? = some v → r'.out.popOk = true ∧ r'.out.popData = v)

/-- Push to pop, one cycle: what a pop returns was in the queue before its cycle; with an empty buffer a PUSH_POP is
answered `Empty` on the pop side; and, where its push can be accepted (`C >= 2`), the consumer that retries in the next
cycle gets the element, every bit of it (R163; 20_memory.md R54, R58). -/
def Obligations.PushVisibleToPopNextCycle : Prop :=
  (∀ (s t : State) (p q : Bool) (data : Bus) (r : CycleRecord) (v : Nat), s.Ready →
    exec (decodeCmd false p q data) s = .next t → t.trace = s.trace ++ [r] → r.returned = some v →
      s.queue.head? = some v) ∧
  ∀ (s : State) (data : Bus), s.Ready → s.queue = [] → data.unclean % 2 ^ s.params.W = 0 →
    ∃ t r, exec (.pushPop data) s = .next t ∧ t.trace = s.trace ++ [r] ∧ r.popResult = 2 ∧ r.returned = none ∧
      (2 ≤ s.params.C → r.pushResult = 1 ∧
        ∃ u r', exec .pop t = .next u ∧ u.trace = t.trace ++ [r'] ∧ r'.popResult = 1 ∧
          ∀ b, b < s.params.W → r'.out.popData.testBit b = data.value.testBit b)

/-- Pop to push, one cycle: the slot a pop frees is not written in that cycle; with a full buffer a PUSH_POP is answered
`Full` on the push side; and, where there is an element to pop (`C >= 2`), the producer that retries in the next cycle
succeeds (R164). -/
def Obligations.PopFreesSlotNextCycle : Prop :=
  (∀ (s t : State) (p q : Bool) (data : Bus) (r : CycleRecord), s.Ready →
    exec (decodeCmd false p q data) s = .next t → t.trace = s.trace ++ [r] → r.out.popOk = true →
      t.memRead s.head = s.memRead s.head) ∧
  ∀ (s : State) (data : Bus), s.Ready → s.queue.length = s.params.C - 1 → data.unclean % 2 ^ s.params.W = 0 →
    ∃ t r, exec (.pushPop data) s = .next t ∧ t.trace = s.trace ++ [r] ∧ r.pushResult = 2 ∧ r.pushed = none ∧
      (2 ≤ s.params.C → r.popResult = 1 ∧
        ∃ u r', exec (.push data) t = .next u ∧ u.trace = t.trace ++ [r'] ∧ r'.pushResult = 1 ∧
          u.queue = s.queue.drop 1 ++ [data.value % 2 ^ s.params.W])

/-- The outputs depend on the state only through the queue: two ready states with equal parameters and equal queues
give the same observed outputs and the same stops for every input stream of one block's life, wherever their elements
sit and whatever their stale slots and free values hold (R107, 10_state.md R37). -/
def Obligations.EqualQueuesGiveEqualObservations : Prop :=
  ∀ (s t : State) (n : Nat), SameView s t → noElaboration s.events →
    SameOutcome (runFor n s) (runFor n t)

/-- A cycle with a push and a pop gives the result of the software interleaving in which both threads load before
either stores, whichever stores first: the same answers, the same element, the same indices and storage (R61). R61 names
the loads and the release stores alone: that a thread has two steps, and that its decision, its slot access and its index
store are one of them, is the model's choice, log entry 16. -/
def Obligations.CycleEqualsSoftwareInterleaving : Prop :=
  ∀ (s : State) (data : Bus) (stores : List ThreadStep), s.Ready → data.unclean % 2 ^ s.params.W = 0 →
    (stores = [.producerStore (data.value % 2 ^ s.params.W), .consumerStore] ∨
      stores = [.consumerStore, .producerStore (data.value % 2 ^ s.params.W)]) →
    ∃ t r, exec (.pushPop data) s = .next t ∧ t.trace = s.trace ++ [r] ∧
      let w := (Software.idle s).run ([.producerLoad, .consumerLoad] ++ stores)
      t.head = w.block.head ∧ t.tail = w.block.tail ∧ t.storage = w.block.storage ∧
      w.pushResult = some r.out.pushOk ∧
      w.popResult = some (if r.out.popOk then some r.out.popData else none)

/-! ## Storage -/

/-- A slot reads as what was last written to it, a write leaves every other slot alone and keeps the canonical form,
and two storages in canonical form that read alike are equal (00_scope.md R14). -/
def Obligations.StorageReadsWhatWasWritten : Prop :=
  (∀ (s : State) (i j v : Nat), (s.memWrite i v).memRead i = v ∧ (j ≠ i → (s.memWrite i v).memRead j = s.memRead j)) ∧
  (∀ (C W i v : Nat) (m : Memory), i < C → v < 2 ^ W → Memory.wf C W m = true →
    Memory.wf C W (Memory.write m i v) = true) ∧
  (∀ (C W : Nat) (m m' : Memory), Memory.wf C W m = true → Memory.wf C W m' = true →
    (∀ i, Memory.read? m i = Memory.read? m' i) → m = m')

/-! ## Command syntax -/

/-- The spelling of every clean well-formed command reads back as that command, and `idle n` is `n` NOP cycles (R81,
R82). -/
def Obligations.SpellingsReadBack : Prop :=
  (∀ (W : Nat) (i : Instr) (text : String), i.wf W = true → (encodeWord W i).isSome = true →
    Instr.spelling i = some text → parseLine W text.toList = some (.command i)) ∧
  (∀ (W n : Nat), (Line.idle n).events W = List.replicate n (encodeEvent .nop))

/-! ## Full detection, whatever else happens -/

/-- Full detection: take any run of one block from an empty ready state in which no cycle is a RESET and no pop is
accepted (idle cycles, samplings and rejected pops may stand anywhere). As long as it requests at most `C - 1` pushes,
all are accepted and the queue is what they pushed. Once it has requested `C - 1`, the next PUSH is `Full` and leaves
the queue unchanged, and a following POP returns the first pushed element (R110). -/
def Obligations.FullDetectionAmongOtherCycles : Prop :=
  ∀ (s t : State) (n : Nat) (rs : List CycleRecord), s.Ready → s.queue = [] → noElaboration s.events →
    runFor n s = .next t → t.trace = s.trace ++ rs → (∀ a ∈ rs, a.rst = false ∧ a.out.popOk = false) →
    ((rs.filter (·.pushReq)).length ≤ s.params.C - 1 →
      (∀ a ∈ rs, a.pushReq = true → a.out.pushOk = true) ∧ t.queue = rs.filterMap (·.pushed) ∧
      t.queue.length = (rs.filter (·.pushReq)).length) ∧
    ((rs.filter (·.pushReq)).length = s.params.C - 1 → ∀ data : Bus,
      ∃ u r, exec (.push data) t = .next u ∧ u.trace = t.trace ++ [r] ∧ r.out.pushOk = false ∧ r.pushResult = 2 ∧
        u.queue = t.queue ∧
        ∃ x r', exec .pop u = .next x ∧ x.trace = u.trace ++ [r'] ∧
          ∀ v, (rs.filterMap (·.pushed)).head? = some v → r'.returned = some v)
end

