-- ==== Sys2Proof/Laws/State.lean ====
section
/-! SUPPORT. What each update of a single field leaves in each field. -/

namespace Sys2Proof.Machine

variable (s : State)

@[simp] theorem State.withHead_params (x : Nat) : (s.withHead x).params = s.params := rfl
@[simp] theorem State.withHead_constructed (x : Nat) : (s.withHead x).constructed = s.constructed := rfl
@[simp] theorem State.withHead_head (x : Nat) : (s.withHead x).head = x := rfl
@[simp] theorem State.withHead_tail (x : Nat) : (s.withHead x).tail = s.tail := rfl
@[simp] theorem State.withHead_storage (x : Nat) : (s.withHead x).storage = s.storage := rfl
@[simp] theorem State.withHead_events (x : Nat) : (s.withHead x).events = s.events := rfl
@[simp] theorem State.withHead_trace (x : Nat) : (s.withHead x).trace = s.trace := rfl
@[simp] theorem State.withHead_lastSample (x : Nat) : (s.withHead x).lastSample = s.lastSample := rfl
@[simp] theorem State.withHead_draws (x : Nat) : (s.withHead x).draws = s.draws := rfl
@[simp] theorem State.withHead_powerUpId (x : Nat) : (s.withHead x).powerUpId = s.powerUpId := rfl

@[simp] theorem State.withTail_params (x : Nat) : (s.withTail x).params = s.params := rfl
@[simp] theorem State.withTail_constructed (x : Nat) : (s.withTail x).constructed = s.constructed := rfl
@[simp] theorem State.withTail_head (x : Nat) : (s.withTail x).head = s.head := rfl
@[simp] theorem State.withTail_tail (x : Nat) : (s.withTail x).tail = x := rfl
@[simp] theorem State.withTail_storage (x : Nat) : (s.withTail x).storage = s.storage := rfl
@[simp] theorem State.withTail_events (x : Nat) : (s.withTail x).events = s.events := rfl
@[simp] theorem State.withTail_trace (x : Nat) : (s.withTail x).trace = s.trace := rfl
@[simp] theorem State.withTail_lastSample (x : Nat) : (s.withTail x).lastSample = s.lastSample := rfl
@[simp] theorem State.withTail_draws (x : Nat) : (s.withTail x).draws = s.draws := rfl
@[simp] theorem State.withTail_powerUpId (x : Nat) : (s.withTail x).powerUpId = s.powerUpId := rfl

@[simp] theorem State.memWrite_params (i : Nat) (v : Nat) : (s.memWrite i v).params = s.params := rfl
@[simp] theorem State.memWrite_constructed (i : Nat) (v : Nat) : (s.memWrite i v).constructed = s.constructed := rfl
@[simp] theorem State.memWrite_head (i : Nat) (v : Nat) : (s.memWrite i v).head = s.head := rfl
@[simp] theorem State.memWrite_tail (i : Nat) (v : Nat) : (s.memWrite i v).tail = s.tail := rfl
@[simp] theorem State.memWrite_storage (i : Nat) (v : Nat) : (s.memWrite i v).storage = Memory.write s.storage i v := rfl
@[simp] theorem State.memWrite_events (i : Nat) (v : Nat) : (s.memWrite i v).events = s.events := rfl
@[simp] theorem State.memWrite_trace (i : Nat) (v : Nat) : (s.memWrite i v).trace = s.trace := rfl
@[simp] theorem State.memWrite_lastSample (i : Nat) (v : Nat) : (s.memWrite i v).lastSample = s.lastSample := rfl
@[simp] theorem State.memWrite_draws (i : Nat) (v : Nat) : (s.memWrite i v).draws = s.draws := rfl
@[simp] theorem State.memWrite_powerUpId (i : Nat) (v : Nat) : (s.memWrite i v).powerUpId = s.powerUpId := rfl

@[simp] theorem State.markConstructed_params : s.markConstructed.params = s.params := rfl
@[simp] theorem State.markConstructed_constructed : s.markConstructed.constructed = true := rfl
@[simp] theorem State.markConstructed_head : s.markConstructed.head = s.head := rfl
@[simp] theorem State.markConstructed_tail : s.markConstructed.tail = s.tail := rfl
@[simp] theorem State.markConstructed_storage : s.markConstructed.storage = s.storage := rfl
@[simp] theorem State.markConstructed_events : s.markConstructed.events = s.events := rfl
@[simp] theorem State.markConstructed_trace : s.markConstructed.trace = s.trace := rfl
@[simp] theorem State.markConstructed_lastSample : s.markConstructed.lastSample = s.lastSample := rfl
@[simp] theorem State.markConstructed_draws : s.markConstructed.draws = s.draws := rfl
@[simp] theorem State.markConstructed_powerUpId : s.markConstructed.powerUpId = s.powerUpId := rfl

@[simp] theorem State.withEvents_params (es : List Event) : (s.withEvents es).params = s.params := rfl
@[simp] theorem State.withEvents_constructed (es : List Event) : (s.withEvents es).constructed = s.constructed := rfl
@[simp] theorem State.withEvents_head (es : List Event) : (s.withEvents es).head = s.head := rfl
@[simp] theorem State.withEvents_tail (es : List Event) : (s.withEvents es).tail = s.tail := rfl
@[simp] theorem State.withEvents_storage (es : List Event) : (s.withEvents es).storage = s.storage := rfl
@[simp] theorem State.withEvents_events (es : List Event) : (s.withEvents es).events = es := rfl
@[simp] theorem State.withEvents_trace (es : List Event) : (s.withEvents es).trace = s.trace := rfl
@[simp] theorem State.withEvents_lastSample (es : List Event) : (s.withEvents es).lastSample = s.lastSample := rfl
@[simp] theorem State.withEvents_draws (es : List Event) : (s.withEvents es).draws = s.draws := rfl
@[simp] theorem State.withEvents_powerUpId (es : List Event) : (s.withEvents es).powerUpId = s.powerUpId := rfl

@[simp] theorem State.withSample_params (v : Sample) : (s.withSample v).params = s.params := rfl
@[simp] theorem State.withSample_constructed (v : Sample) : (s.withSample v).constructed = s.constructed := rfl
@[simp] theorem State.withSample_head (v : Sample) : (s.withSample v).head = s.head := rfl
@[simp] theorem State.withSample_tail (v : Sample) : (s.withSample v).tail = s.tail := rfl
@[simp] theorem State.withSample_storage (v : Sample) : (s.withSample v).storage = s.storage := rfl
@[simp] theorem State.withSample_events (v : Sample) : (s.withSample v).events = s.events := rfl
@[simp] theorem State.withSample_trace (v : Sample) : (s.withSample v).trace = s.trace := rfl
@[simp] theorem State.withSample_lastSample (v : Sample) : (s.withSample v).lastSample = some v := rfl
@[simp] theorem State.withSample_draws (v : Sample) : (s.withSample v).draws = s.draws := rfl
@[simp] theorem State.withSample_powerUpId (v : Sample) : (s.withSample v).powerUpId = s.powerUpId := rfl

@[simp] theorem State.record_params (r : CycleRecord) : (s.record r).params = s.params := rfl
@[simp] theorem State.record_constructed (r : CycleRecord) : (s.record r).constructed = s.constructed := rfl
@[simp] theorem State.record_head (r : CycleRecord) : (s.record r).head = s.head := rfl
@[simp] theorem State.record_tail (r : CycleRecord) : (s.record r).tail = s.tail := rfl
@[simp] theorem State.record_storage (r : CycleRecord) : (s.record r).storage = s.storage := rfl
@[simp] theorem State.record_events (r : CycleRecord) : (s.record r).events = s.events := rfl
@[simp] theorem State.record_trace (r : CycleRecord) : (s.record r).trace = s.trace ++ [r] := rfl
@[simp] theorem State.record_lastSample (r : CycleRecord) : (s.record r).lastSample = s.lastSample := rfl
@[simp] theorem State.record_draws (r : CycleRecord) : (s.record r).draws = s.draws + 1 := rfl
@[simp] theorem State.record_powerUpId (r : CycleRecord) : (s.record r).powerUpId = s.powerUpId := rfl

end Sys2Proof.Machine
end

