-- ==== Sys2Proof/Laws/Memory.lean ====
section
/-! SUPPORT. The laws of storage: a read after a write to the same slot gives what was written, a write leaves every
other slot alone, and a write keeps the canonical form. -/

namespace Sys2Proof.Machine

@[simp] theorem Memory.read?_nil (i : Nat) : Memory.read? [] i = none := rfl

@[simp] theorem Memory.wf_nil (C W : Nat) : Memory.wf C W [] = true := rfl

theorem Memory.read?_write_same (m : Memory) (i : Nat) (v : Nat) :
    Memory.read? (Memory.write m i v) i = some v := by
  induction m with
  | nil => simp [Memory.write, Memory.read?]
  | cons c rest ih =>
    obtain ⟨a, w⟩ := c
    rw [Memory.write]
    split
    · simp [Memory.read?]
    · split
      · simp [Memory.read?]
      · next h => simp [Memory.read?, ih, Ne.symm h]

theorem Memory.read?_write_other (m : Memory) {i j : Nat} (v : Nat) (h : j ≠ i) :
    Memory.read? (Memory.write m i v) j = Memory.read? m j := by
  induction m with
  | nil => simp [Memory.write, Memory.read?, h.symm]
  | cons c rest ih =>
    obtain ⟨a, w⟩ := c
    rw [Memory.write]
    split
    · simp [Memory.read?, h.symm]
    · split
      · next hia => subst hia; simp [Memory.read?, h.symm]
      · simp [Memory.read?, ih]

theorem Memory.wfFrom_write {C W lo : Nat} {m : Memory} {i : Nat} {v : Nat} (hi : i < C) (hv : v < 2 ^ W)
    (hlo : lo ≤ i) (hm : Memory.wfFrom C W lo m = true) : Memory.wfFrom C W lo (Memory.write m i v) = true := by
  induction m generalizing lo with
  | nil => simp [Memory.write, Memory.wfFrom, hi, hv, hlo]
  | cons c rest ih =>
    obtain ⟨a, w⟩ := c
    simp only [Memory.wfFrom, Bool.and_eq_true, decide_eq_true_eq] at hm
    obtain ⟨⟨⟨ha, haC⟩, hw⟩, hrest⟩ := hm
    rw [Memory.write]
    split
    · next h => simp [Memory.wfFrom, hi, hv, hlo, haC, hw, hrest, Nat.succ_le_of_lt h]
    · split
      · next h => subst h; simp [Memory.wfFrom, hi, hv, ha, hrest]
      · have := ih (lo := a + 1) (by omega) hrest
        simp [Memory.wfFrom, ha, haC, hw, this]

theorem Memory.wf_write {C W : Nat} {m : Memory} {i : Nat} {v : Nat} (hi : i < C) (hv : v < 2 ^ W)
    (hm : Memory.wf C W m = true) : Memory.wf C W (Memory.write m i v) = true :=
  Memory.wfFrom_write hi hv (Nat.zero_le _) hm

/-- Every element of a memory in canonical form fits in `W` bits. -/
theorem Memory.read?_lt {C W lo : Nat} {m : Memory} (hm : Memory.wfFrom C W lo m = true) {i : Nat} {v : Nat}
    (h : Memory.read? m i = some v) : v < 2 ^ W := by
  induction m generalizing lo with
  | nil => simp at h
  | cons c rest ih =>
    obtain ⟨a, w⟩ := c
    simp only [Memory.wfFrom, Bool.and_eq_true, decide_eq_true_eq] at hm
    rw [Memory.read?] at h
    split at h
    · cases h; exact hm.1.2
    · exact ih hm.2 h

/-! ## Reading a slot of the state -/

@[simp] theorem State.memRead_withHead (s : State) (x i : Nat) : (s.withHead x).memRead i = s.memRead i := rfl

@[simp] theorem State.memRead_withTail (s : State) (x i : Nat) : (s.withTail x).memRead i = s.memRead i := rfl

@[simp] theorem State.memRead_markConstructed (s : State) (i : Nat) : s.markConstructed.memRead i = s.memRead i := rfl

@[simp] theorem State.memRead_withEvents (s : State) (es : List Event) (i : Nat) :
    (s.withEvents es).memRead i = s.memRead i := rfl

@[simp] theorem State.memRead_withSample (s : State) (v : Sample) (i : Nat) :
    (s.withSample v).memRead i = s.memRead i := rfl

@[simp] theorem State.memRead_record (s : State) (r : CycleRecord) (i : Nat) : (s.record r).memRead i = s.memRead i := rfl

@[simp] theorem State.memRead_memWrite_same (s : State) (i : Nat) (v : Nat) :
    (s.memWrite i v).memRead i = v := by
  simp [State.memRead, Memory.read?_write_same]

theorem State.memRead_memWrite_other (s : State) {i j : Nat} (v : Nat) (h : j ≠ i) :
    (s.memWrite i v).memRead j = s.memRead j := by
  simp [State.memRead, State.unwritten, Memory.read?_write_other _ _ h]

theorem State.memRead_lt (s : State) (h : Memory.wf s.params.C s.params.W s.storage = true) (i : Nat) :
    s.memRead i < 2 ^ s.params.W := by
  rw [State.memRead]
  split
  · next v hv => exact Memory.read?_lt h hv
  · exact Nat.mod_lt _ (Nat.two_pow_pos _)

end Sys2Proof.Machine
end

