-- ==== Sys2Proof/Laws/Params.lean ====
section
/-! SUPPORT. What legal parameters give: `C` is a power of two, and masking is reduction modulo `C`. -/

namespace Sys2Proof

theorem Config.legal_iff {C W m : Nat} :
    Config.legal C W m = true ↔ 0 < C ∧ C &&& (C - 1) = 0 ∧ 1 ≤ W ∧ Nat.log2 C ≤ m := by
  simp [Config.legal, and_assoc]

variable (p : Params)

theorem Params.C_pos : 0 < p.C := (Config.legal_iff.mp p.legal).1

theorem Params.W_pos : 1 ≤ p.W := (Config.legal_iff.mp p.legal).2.2.1

theorem Params.k_le : p.k ≤ p.maxLog2C := (Config.legal_iff.mp p.legal).2.2.2

theorem Params.C_eq_two_pow : p.C = 2 ^ p.k := by
  obtain ⟨k, hk⟩ := (Nat.and_sub_one_eq_zero_iff_isPowerOfTwo p.C_pos.ne').mp (Config.legal_iff.mp p.legal).2.1
  rw [Params.k, hk, Nat.log2_two_pow]

theorem Params.and_mask (x : Nat) : x &&& p.mask = x % p.C := by
  rw [Params.mask, p.C_eq_two_pow, Nat.and_two_pow_sub_one_eq_mod]

theorem Params.next_eq_mod (x : Nat) : p.next x = (x + 1) % p.C := p.and_mask _

theorem Params.next_lt (x : Nat) : p.next x < p.C := by
  rw [p.next_eq_mod]; exact Nat.mod_lt _ p.C_pos

theorem Params.C_le_ptr_range : p.C ≤ 2 ^ p.ptrW := by
  rw [p.C_eq_two_pow]; exact Nat.pow_le_pow_right (by decide) (Nat.le_max_left _ _)

theorem Params.lt_ptr_range {x : Nat} (h : x < p.C) : x < 2 ^ p.ptrW := lt_of_lt_of_le h p.C_le_ptr_range

end Sys2Proof
end

