-- ==== Sys2Proof/Laws/Cycle.lean ====
section
/-! SUPPORT. What a clock cycle can do, said once: the outcomes of a data cycle and of a reset cycle, and the fields of
the state after the edge. -/

namespace Sys2Proof.Machine

variable (s : State) (pushReq popReq : Bool) (data : Bus)

/-! ## The outcomes of a data cycle -/

theorem dataCycle_of_not_constructed (h : s.constructed = false) :
    dataCycle pushReq popReq data s = .refused .notConstructed := by
  simp [dataCycle, h]

theorem dataCycle_of_unclean (h : s.constructed = true) (ok : s.pushOk pushReq = true)
    (unclean : data.clean s.params.W = false) : dataCycle pushReq popReq data s = .refused .inputUnknown := by
  simp [dataCycle, h, ok, unclean]

theorem dataCycle_of_clean (h : s.constructed = true) (clean : s.pushOk pushReq = true → data.clean s.params.W = true) :
    dataCycle pushReq popReq data s = .next (s.dataEdge pushReq popReq data) := by
  cases ok : s.pushOk pushReq <;> simp_all [dataCycle]

/-- A data cycle that completes is of a constructed block, takes clean data if any, and ends in the edge's state. -/
theorem dataCycle_next_iff {t : State} :
    dataCycle pushReq popReq data s = .next t ↔
      s.constructed = true ∧ (s.pushOk pushReq = true → data.clean s.params.W = true) ∧
        t = s.dataEdge pushReq popReq data := by
  cases hc : s.constructed <;> cases ok : s.pushOk pushReq <;> cases cl : data.clean s.params.W <;>
    simp [dataCycle, hc, ok, cl, eq_comm]

/-- A data cycle never faults. -/
theorem dataCycle_ne_fault (r : Fault) : dataCycle pushReq popReq data s ≠ .fault r := by
  unfold dataCycle
  split
  · split <;> simp
  · simp

/-! ## The state after a data edge -/

@[simp] theorem State.dataEdge_params : (s.dataEdge pushReq popReq data).params = s.params := by
  unfold State.dataEdge State.popEdge State.pushEdge; split <;> split <;> rfl

@[simp] theorem State.dataEdge_constructed : (s.dataEdge pushReq popReq data).constructed = s.constructed := by
  unfold State.dataEdge State.popEdge State.pushEdge; split <;> split <;> rfl

@[simp] theorem State.dataEdge_head :
    (s.dataEdge pushReq popReq data).head = if s.popOk popReq then s.params.next s.head else s.head := by
  unfold State.dataEdge State.popEdge State.pushEdge; split <;> split <;> rfl

@[simp] theorem State.dataEdge_tail :
    (s.dataEdge pushReq popReq data).tail = if s.pushOk pushReq then s.params.next s.tail else s.tail := by
  unfold State.dataEdge State.popEdge State.pushEdge; split <;> split <;> rfl

@[simp] theorem State.dataEdge_storage :
    (s.dataEdge pushReq popReq data).storage =
      if s.pushOk pushReq then Memory.write s.storage s.tail (data.element s.params.W) else s.storage := by
  unfold State.dataEdge State.popEdge State.pushEdge; split <;> split <;> rfl

@[simp] theorem State.dataEdge_events : (s.dataEdge pushReq popReq data).events = s.events := by
  unfold State.dataEdge State.popEdge State.pushEdge; split <;> split <;> rfl

@[simp] theorem State.dataEdge_trace :
    (s.dataEdge pushReq popReq data).trace = s.trace ++ [s.dataRecord pushReq popReq data] := by
  unfold State.dataEdge State.popEdge State.pushEdge; split <;> split <;> rfl

@[simp] theorem State.dataEdge_lastSample : (s.dataEdge pushReq popReq data).lastSample = s.lastSample := by
  unfold State.dataEdge State.popEdge State.pushEdge; split <;> split <;> rfl

@[simp] theorem State.dataEdge_draws : (s.dataEdge pushReq popReq data).draws = s.draws + 1 := by
  unfold State.dataEdge State.popEdge State.pushEdge; split <;> split <;> rfl

@[simp] theorem State.dataEdge_powerUpId : (s.dataEdge pushReq popReq data).powerUpId = s.powerUpId := by
  unfold State.dataEdge State.popEdge State.pushEdge; split <;> split <;> rfl

/-- Reading a slot after the edge: the element at `s.tail` if a push was accepted, what it was everywhere else. -/
theorem State.dataEdge_memRead (i : Nat) :
    (s.dataEdge pushReq popReq data).memRead i =
      if s.pushOk pushReq = true ∧ i = s.tail then data.element s.params.W else s.memRead i := by
  cases ok : s.pushOk pushReq
  · simp [State.memRead, State.unwritten, ok]
  · by_cases h : i = s.tail
    · simp [State.memRead, ok, h, Memory.read?_write_same]
    · simp [State.memRead, State.unwritten, ok, h, Memory.read?_write_other]

/-! ## The state after a reset edge -/

@[simp] theorem State.resetEdge_params : (s.resetEdge pushReq popReq).params = s.params := rfl
@[simp] theorem State.resetEdge_constructed : (s.resetEdge pushReq popReq).constructed = true := rfl
@[simp] theorem State.resetEdge_head : (s.resetEdge pushReq popReq).head = 0 := rfl
@[simp] theorem State.resetEdge_tail : (s.resetEdge pushReq popReq).tail = 0 := rfl
@[simp] theorem State.resetEdge_storage : (s.resetEdge pushReq popReq).storage = s.storage := rfl
@[simp] theorem State.resetEdge_events : (s.resetEdge pushReq popReq).events = s.events := rfl
@[simp] theorem State.resetEdge_trace :
    (s.resetEdge pushReq popReq).trace = s.trace ++ [s.resetRecord pushReq popReq] := rfl
@[simp] theorem State.resetEdge_lastSample : (s.resetEdge pushReq popReq).lastSample = s.lastSample := rfl
@[simp] theorem State.resetEdge_draws : (s.resetEdge pushReq popReq).draws = s.draws + 1 := rfl
@[simp] theorem State.resetEdge_powerUpId : (s.resetEdge pushReq popReq).powerUpId = s.powerUpId := rfl
@[simp] theorem State.resetEdge_memRead (i : Nat) : (s.resetEdge pushReq popReq).memRead i = s.memRead i := rfl

/-! ## Elaboration -/

/-- CONSTRUCT completes only with legal parameters, and then in the power-up state. -/
theorem execConstruct_next {C W : Nat} {t : State} (h : execConstruct C W s = .next t) :
    ∃ legal : Config.legal C W s.params.maxLog2C = true,
      t = State.powerUp { C := C, W := W, maxLog2C := s.params.maxLog2C, legal := legal } s.events s.draws := by
  unfold execConstruct at h
  split at h
  · next legal => exact ⟨legal, by simpa using h.symm⟩
  · simp at h

/-- What any instruction can do when it completes: a data edge, a reset edge, a sampling, or a new block. -/
theorem exec_next_cases {i : Instr} {t : State} (h : exec i s = .next t) :
    (∃ pushReq popReq data, s.constructed = true ∧ (s.pushOk pushReq = true → data.clean s.params.W = true) ∧
        t = s.dataEdge pushReq popReq data ∧ exec i s = dataCycle pushReq popReq data s) ∨
      (∃ dropped, i = .reset dropped ∧ t = s.resetEdge dropped.pushReq dropped.popReq) ∨
      (∃ v, t = s.withSample v) ∨
      (∃ C W, ∃ legal : Config.legal C W s.params.maxLog2C = true, i = .construct C W ∧
        t = State.powerUp { C := C, W := W, maxLog2C := s.params.maxLog2C, legal := legal } s.events s.draws) := by
  cases i with
  | nop => exact .inl ⟨_, _, _, ((dataCycle_next_iff ..).mp h).1, ((dataCycle_next_iff ..).mp h).2.1,
      ((dataCycle_next_iff ..).mp h).2.2, rfl⟩
  | pop => exact .inl ⟨_, _, _, ((dataCycle_next_iff ..).mp h).1, ((dataCycle_next_iff ..).mp h).2.1,
      ((dataCycle_next_iff ..).mp h).2.2, rfl⟩
  | push d => exact .inl ⟨_, _, _, ((dataCycle_next_iff ..).mp h).1, ((dataCycle_next_iff ..).mp h).2.1,
      ((dataCycle_next_iff ..).mp h).2.2, rfl⟩
  | pushPop d => exact .inl ⟨_, _, _, ((dataCycle_next_iff ..).mp h).1, ((dataCycle_next_iff ..).mp h).2.1,
      ((dataCycle_next_iff ..).mp h).2.2, rfl⟩
  | reset d => exact .inr (.inl ⟨d, rfl, by simpa [exec, execReset, resetCycle] using h.symm⟩)
  | empty => exact .inr (.inr (.inl ⟨_, by simpa [exec, execEmpty] using h.symm⟩))
  | full => exact .inr (.inr (.inl ⟨_, by simpa [exec, execFull] using h.symm⟩))
  | capacity => exact .inr (.inr (.inl ⟨_, by simpa [exec, execCapacity] using h.symm⟩))
  | construct C W =>
    obtain ⟨legal, ht⟩ := execConstruct_next s h
    exact .inr (.inr (.inr ⟨C, W, legal, rfl, ht⟩))

end Sys2Proof.Machine
end

