-- ==== Sys2Proof/Laws/Flags.lean ====
section
/-! SUPPORT. The flags, the ports and the operand checks as plain arithmetic: the spec's `mod C` reading of each. -/

namespace Sys2Proof

theorem Bus.clean_iff (W : Nat) (b : Bus) : b.clean W = true ↔ b.unclean % 2 ^ W = 0 := by simp [Bus.clean]

end Sys2Proof

namespace Sys2Proof.Machine

variable (s : State)

theorem State.emptyFlag_eq : s.emptyFlag = decide (s.head = s.tail) := by
  by_cases h : s.head = s.tail <;> simp [State.emptyFlag, h]

theorem State.fullFlag_eq : s.fullFlag = decide ((s.tail + 1) % s.params.C = s.head) := by
  by_cases h : (s.tail + 1) % s.params.C = s.head <;> simp [State.fullFlag, Params.next_eq_mod, h]

theorem State.emptyPort_of_constructed (h : s.constructed = true) : s.emptyPort = decide (s.head = s.tail) := by
  simp [State.emptyPort, h, s.emptyFlag_eq]

theorem State.fullPort_of_constructed (h : s.constructed = true) :
    s.fullPort = decide ((s.tail + 1) % s.params.C = s.head) := by
  simp [State.fullPort, h, s.fullFlag_eq]

theorem State.pushOk_iff (req : Bool) :
    s.pushOk req = true ↔ req = true ∧ (s.tail + 1) % s.params.C ≠ s.head := by
  simp [State.pushOk, s.fullFlag_eq]

theorem State.popOk_iff (req : Bool) : s.popOk req = true ↔ req = true ∧ s.head ≠ s.tail := by
  simp [State.popOk, s.emptyFlag_eq]

theorem State.capacityPort_eq : s.capacityPort = s.params.C - 1 := by
  rw [State.capacityPort, Params.usable, Nat.mod_eq_of_lt]
  exact s.params.lt_ptr_range (by have := s.params.C_pos; omega)

theorem State.freePopData_lt : s.freePopData < 2 ^ s.params.W := Nat.mod_lt _ (Nat.two_pow_pos _)

end Sys2Proof.Machine
end

