-- ==== Sys2Proof/Laws/PerInstr.lean ====
section
/-! SUPPORT. Per instruction: decoding the event that asks for it gives it back, whatever its operands carry (unclean
wires among them). -/

namespace Sys2Proof.Laws.EventRoundTrip

def Statement (i : Instr) : Prop := decodeEvent (encodeEvent i) = .ok i

theorem nop : Statement .nop := rfl
theorem pop : Statement .pop := rfl
theorem push (data : Bus) : Statement (.push data) := rfl
theorem pushPop (data : Bus) : Statement (.pushPop data) := rfl
theorem reset (dropped : Dropped) : Statement (.reset dropped) := by cases dropped <;> rfl
theorem empty : Statement .empty := rfl
theorem full : Statement .full := rfl
theorem capacity : Statement .capacity := rfl
theorem construct (C W : Nat) : Statement (.construct C W) := rfl

end Sys2Proof.Laws.EventRoundTrip
end

