-- ==== Sys2Proof/Laws/Safety.lean ====
section
/-! SUPPORT. What a data edge and a reset edge say of one cycle: its frame, its requests, its status outputs;
and how a run unfolds. -/

namespace Sys2Proof.Machine

theorem runFor_zero (s : State) : runFor 0 s = .next s := rfl

/-- A run of one step more: the step, then the run from where it ends. -/
theorem runFor_succ (n : Nat) (s : State) :
    runFor (n + 1) s =
      match step s with
      | .next t => runFor n t
      | .fault r => .fault r
      | .refused r => .refused r := by
  have unfolded : runFor (n + 1) s = _ := Host.Core.run.eq_2 Sys2Proof.core s n
  rw [unfolded]
  cases h : step s <;> rw [show Sys2Proof.core.step s = _ from h] <;> rfl

variable {s : State} (h : s.constructed = true) (pushReq popReq : Bool) (data : Bus)

include h

theorem State.dataEdge_oneCycle :
    s.OneCycle (s.dataEdge pushReq popReq data) (s.dataRecord pushReq popReq data) := by
  constructor <;> simp [h]

theorem State.dataRecord_requests : (s.dataRecord pushReq popReq data).Requests pushReq popReq := by
  constructor <;> simp [State.dataRecord, h]

theorem State.dataRecord_showsStatus : s.ShowsStatus (s.dataRecord pushReq popReq data) := by
  constructor <;>
    simp [State.dataRecord, State.dataOutput, s.emptyPort_of_constructed h, s.fullPort_of_constructed h,
      s.capacityPort_eq]

omit h

theorem State.resetEdge_oneCycle : s.OneCycle (s.resetEdge pushReq popReq) (s.resetRecord pushReq popReq) :=
  ⟨rfl, rfl, rfl, rfl, rfl, rfl, rfl⟩

/-- A clean bus makes a data cycle of a constructed block complete. -/
theorem dataCycle_next (h : s.constructed = true) (clean : data.unclean % 2 ^ s.params.W = 0) :
    dataCycle pushReq popReq data s = .next (s.dataEdge pushReq popReq data) :=
  dataCycle_of_clean s pushReq popReq data h fun _ => (data.clean_iff s.params.W).mpr clean

end Sys2Proof.Machine
end

