-- ==== Sys2Proof/Tests/Slice0.lean ====
section
/-! SUPPORT. Tests. Expected results come from spec/95_test_vectors.md (the row's name stands beside each test), from the
encodings of spec/30_encoding.md, or from hand calculation on them; then, for every statement with hypotheses, a concrete
state and operands that meet them. -/

namespace Sys2Proof.Tests

open Sys2Proof Sys2Proof.Machine

/-! ## Small states -/

def params (C : Nat) (legal : Config.legal C 8 16 = true) : Params := { C := C, W := 8, maxLog2C := 16, legal := legal }

def p1 : Params := params 1 (by decide)
def p2 : Params := params 2 (by decide)
def p4 : Params := params 4 (by decide)
def p8 : Params := params 8 (by decide)

/-- A constructed block with nothing observed yet. -/
def block (p : Params) (head tail : Nat) (storage : Memory) : State :=
  { State.reset with params := p, head := head, tail := tail, storage := storage }

/-- A block before its first reset edge. -/
def unbuilt (p : Params) : State := { block p 0 0 [] with constructed := false }

/-- What a vector row lists: `head'`, `tail'`, `storage'` and the observed outputs of the last cycle. -/
def row : Host.Outcome State Fault Refusal → Option (Nat × Nat × Memory × Option Observed)
  | .next t => some (t.head, t.tail, t.storage, t.trace.getLast?.map CycleRecord.observed)
  | .fault _ => none
  | .refused _ => none

def outcomeIsNext : Host.Outcome State Fault Refusal → Bool
  | .next _ => true
  | .fault _ => false
  | .refused _ => false

def faultOf : Host.Outcome State Fault Refusal → Option Fault
  | .next _ => none
  | .fault f => some f
  | .refused _ => none

def refusalOf : Host.Outcome State Fault Refusal → Option Refusal
  | .next _ => none
  | .fault _ => none
  | .refused r => some r

def sampleOf : Host.Outcome State Fault Refusal → Option Sample
  | .next t => t.lastSample
  | .fault _ => none
  | .refused _ => none

def out (pushOk popOk empty full : Bool) (capacity : Nat) (popData : Option Nat) : Option Observed :=
  some
    { pushOk := pushOk
      popOk := popOk
      empty := some empty
      full := some full
      capacity := capacity
      popData := popData }

/-! ## WellFormed refuses ill-formed operands -/

theorem test_wf_accepts_all_ones : (Instr.push (Bus.ofNat 255)).wf 8 = true := by decide
theorem test_wf_refuses_value_too_wide : (Instr.push (Bus.ofNat 256)).wf 8 = false := by decide
theorem test_wf_refuses_unclean_wire_that_is_not_there : (Instr.pushPop { value := 0, unclean := 256 }).wf 8 = false := by
  decide
theorem test_wf_refuses_value_on_unclean_wire : (Instr.push { value := 1, unclean := 1 }).wf 8 = false := by decide
theorem test_wf_refuses_dropped_push_too_wide : (Instr.reset (.push (Bus.ofNat 256))).wf 8 = false := by decide
theorem test_wf_refuses_dropped_pushpop_too_wide : (Instr.reset (.pushPop (Bus.ofNat 300))).wf 8 = false := by decide

/-! ## Decoding, by words written out from R73 and R77 -/

theorem test_decode_nop : decodeWord 8 0b000_00000000 = .ok .nop := by decide
theorem test_decode_pop : decodeWord 8 0b001_00000000 = .ok .pop := by decide
theorem test_decode_push : decodeWord 8 0b010_10100101 = .ok (.push (Bus.ofNat 0xA5)) := by decide
theorem test_decode_pushpop : decodeWord 8 0b011_00011110 = .ok (.pushPop (Bus.ofNat 30)) := by decide
theorem test_decode_reset : decodeWord 8 0b100_00000000 = .ok (.reset .none) := by decide
theorem test_decode_reset_pop : decodeWord 8 0b101_00000000 = .ok (.reset .pop) := by decide
theorem test_decode_reset_push : decodeWord 8 0b110_00000111 = .ok (.reset (.push (Bus.ofNat 7))) := by decide
theorem test_decode_reset_pushpop : decodeWord 8 0b111_00000111 = .ok (.reset (.pushPop (Bus.ofNat 7))) := by decide
theorem test_decode_nop_ignores_data : decodeWord 8 0b000_11111111 = .ok .nop := by decide
theorem test_decode_one_bit_elements : decodeWord 1 0b0111 = .ok (.pushPop (Bus.ofNat 1)) := by decide
theorem test_decode_refuses_wide_word : decodeWord 8 0x800 = .error .wordTooWide := by decide
theorem test_decode_status_events : decodeEvent (.sample .empty) = .ok .empty ∧ decodeEvent (.sample .full) = .ok .full ∧
    decodeEvent (.sample .capacity) = .ok .capacity ∧ decodeEvent (.elaborate 4 8) = .ok (.construct 4 8) := by decide
theorem test_decode_refuses_x_request :
    decodeInput { rst := .lo, pushReq := .lo, popReq := .x, pushData := Bus.ofNat 0 } = .error .inputUnknown := by decide
/-- The opcode rows cover every `cmd` and no two select the same one. -/
theorem test_opcode_rows_partition : ∀ cmd < 8, (opcodeRows.filter fun r => r.selects cmd).length = 1 := by decide
theorem test_table_words : decodeTableWord 8 0 = some .nop ∧ decodeTableWord 8 1 = some .pop ∧
    decodeTableWord 8 2 = some (.push (Bus.ofNat 0)) ∧ decodeTableWord 8 3 = some (.pushPop (Bus.ofNat 0)) ∧
    decodeTableWord 8 4 = some (.reset .none) := by decide
theorem test_fetch_word_runs : outcomeIsNext (step (State.reset.withFetchWord 8 1)) = true ∧
    row (step (State.reset.withFetchWord 8 2)) = some (0, 1, [(0, 0)], out true false true false 3 none) := by decide

/-! ## The commands, on the vectors of section 2 -/

/-- N1. -/
theorem test_nop_mid : row (exec .nop (block p4 1 3 [(1, 0x14), (2, 0x1E)])) =
    some (1, 3, [(1, 0x14), (2, 0x1E)], out false false false false 3 none) := by decide
/-- N3. -/
theorem test_nop_full : row (exec .nop (block p4 0 3 [(0, 1), (1, 2), (2, 3)])) =
    some (0, 3, [(0, 1), (1, 2), (2, 3)], out false false false true 3 none) := by decide
/-- P3: `tail = C - 1` wraps. -/
theorem test_push_wraps : row (exec (.push (Bus.ofNat 0x28)) (block p4 1 3 [(0, 0x0A), (1, 0x14), (2, 0x1E)])) =
    some (1, 0, [(0, 0x0A), (1, 0x14), (2, 0x1E), (3, 0x28)], out true false false false 3 none) := by decide
/-- P5: full, wrapped. -/
theorem test_push_full : row (exec (.push (Bus.ofNat 0x28)) (block p4 2 1 [(0, 0x32), (1, 0x0A), (2, 0x14), (3, 0x1E)])) =
    some (2, 1, [(0, 0x32), (1, 0x0A), (2, 0x14), (3, 0x1E)], out false false false true 3 none) := by decide
/-- Q3: `head = C - 1` wraps. -/
theorem test_pop_wraps : row (exec .pop (block p4 3 1 [(0, 0x32), (3, 0x28)])) =
    some (0, 1, [(0, 0x32), (3, 0x28)], out false true false false 3 (some 0x28)) := by decide
/-- Q4: empty with stale slots. -/
theorem test_pop_empty_stale : row (exec .pop (block p4 2 2 [(0, 0x32), (1, 0x0A), (2, 0x14), (3, 0x1E)])) =
    some (2, 2, [(0, 0x32), (1, 0x0A), (2, 0x14), (3, 0x1E)], out false false true false 3 none) := by decide
/-- X4: both accepted, the storage slot reused, `head` wraps. -/
theorem test_pushpop_both : row (exec (.pushPop (Bus.ofNat 0x3C)) (block p4 3 1 [(0, 0x32), (3, 0x28)])) =
    some (0, 2, [(0, 0x32), (1, 0x3C), (3, 0x28)], out true true false false 3 (some 0x28)) := by decide
/-- X7: `C = 1`, both rejected. -/
theorem test_pushpop_size_one : row (exec (.pushPop (Bus.ofNat 9)) (block p1 0 0 [])) =
    some (0, 0, [], out false false true true 0 none) := by decide
/-- S2: RESET drops the push; the flags are those before the edge. -/
theorem test_reset_drops_push :
    row (exec (.reset (.push (Bus.ofNat 7))) (block p4 2 1 [(0, 0x32), (1, 0x0A), (2, 0x14), (3, 0x1E)])) =
    some (0, 0, [(0, 0x32), (1, 0x0A), (2, 0x14), (3, 0x1E)], out false false false true 3 none) := by decide
/-- S8: RESET from power-up; the flags are not observed. -/
theorem test_reset_from_power_up : row (exec (.reset .none) (unbuilt p4)) =
    some (0, 0, [], some { pushOk := false, popOk := false, empty := none, full := none, capacity := 3, popData := none }) := by
  decide
/-- Section 2.1: the legal and the illegal storage sizes. -/
theorem test_construct_sizes : ∀ C < 17, outcomeIsNext (exec (.construct C 8) State.reset) =
    (C == 1 || C == 2 || C == 4 || C == 8 || C == 16) := by decide
/-- Section 2.1: `W = 0`, and a bound of 16 on `k`. -/
theorem test_construct_faults : faultOf (exec (.construct 4 0) State.reset) = some (.configInvalid 4 0 16) ∧
    faultOf (exec (.construct (2 ^ 17) 8) State.reset) = some (.configInvalid (2 ^ 17) 8 16) := by decide
/-- Section 2.7. -/
theorem test_empty_samples : sampleOf (exec .empty (block p4 3 3 [])) = some (.empty true) ∧
    sampleOf (exec .empty (block p2 0 1 [])) = some (.empty false) := by decide
/-- Section 2.7. -/
theorem test_full_samples : sampleOf (exec .full (block p4 3 2 [])) = some (.full true) ∧
    sampleOf (exec .full (block p4 1 3 [])) = some (.full false) ∧
    sampleOf (exec .full (block p1 0 0 [])) = some (.full true) := by decide
/-- Section 2.7. -/
theorem test_capacity_samples : sampleOf (exec .capacity (block p1 0 0 [])) = some (.capacity 0) ∧
    sampleOf (exec .capacity (unbuilt p8)) = some (.capacity 7) := by decide

/-! ## Refusals -/

/-- S6 and S7. -/
theorem test_not_constructed : refusalOf (exec (.push (Bus.ofNat 1)) (unbuilt p4)) = some .notConstructed ∧
    refusalOf (exec .nop (unbuilt p4)) = some .notConstructed := by decide
/-- S9 and S10. -/
theorem test_unclean_inputs :
    refusalOf (step ((block p4 0 0 []).withEvents
      [.cycle { rst := .lo, pushReq := .lo, popReq := .x, pushData := Bus.ofNat 0 }])) = some .inputUnknown ∧
    outcomeIsNext (step ((block p4 0 0 []).withEvents
      [.cycle { rst := .lo, pushReq := .lo, popReq := .lo, pushData := { value := 0, unclean := 255 } }])) = true := by decide
/-- R80: an unclean wire matters only to an accepted push, and only if the wire exists. -/
theorem test_unclean_push_data :
    refusalOf (exec (.push { value := 0, unclean := 128 }) (block p4 0 0 [])) = some .inputUnknown ∧
    outcomeIsNext (exec (.push { value := 0, unclean := 128 }) (block p4 0 3 [])) = true ∧
    outcomeIsNext (exec (.push { value := 0, unclean := 256 }) (block p4 0 0 [])) = true := by decide

/-! ## Notation: indices, counts, result codes, output word, spellings, listings -/

/-- Section 2.9. -/
theorem test_index_increment : p1.next 0 = 0 ∧ p2.next 1 = 0 ∧ p4.next 2 = 3 ∧ p4.next 3 = 0 ∧ p8.next 7 = 0 := by decide
/-- Section 2.9. -/
theorem test_counts : (block p4 3 1 []).count = 2 ∧ (block p4 1 0 []).count = 3 ∧ (block p8 5 4 []).count = 7 ∧
    (block p8 4 5 []).count = 1 := by decide
/-- Section 2.1: `k`, `PTR_W`, `MASK`. -/
theorem test_derived_parameters : p1.k = 0 ∧ p1.ptrW = 1 ∧ p1.mask = 0 ∧ p2.ptrW = 1 ∧ p8.k = 3 ∧ p8.ptrW = 3 ∧
    p8.usable = 7 := by decide
/-- Section 2.8. -/
theorem test_result_codes : resultCode false false false = 0 ∧ resultCode false true true = 1 ∧
    resultCode false true false = 2 ∧ resultCode true true false = 3 ∧ resultCode true false false = 0 := by decide
/-- R74: `OW = {push_ok, pop_ok, empty, full, pop_data}`, `W = 8`. -/
theorem test_output_word : (fun o => Output.word 8 o = 0b1101_00001010)
    { pushOk := true, popOk := true, empty := false, full := true, capacity := 3, popData := 0x0A } := by decide
/-- R81, R82. -/
theorem test_parse_lines : parseLine 8 "PushPop 0x1E ; both".toList = some (.command (.pushPop (Bus.ofNat 30))) ∧
    parseLine 8 "  reset.push 7".toList = some (.command (.reset (.push (Bus.ofNat 7)))) ∧
    parseLine 8 "push 256".toList = none ∧ parseLine 8 "idle 0".toList = none ∧
    parseLine 8 "construct 4".toList = some (.construct 4) ∧ parseLine 8 "; nothing".toList = some .blank := by decide
/-- Program A, `t = 1`: `push 10`, `0x20A`. -/
theorem test_listing_row : (fun o => match o with
    | Host.Outcome.next t => (let r := listingRow (.push (Bus.ofNat 10)) (block p4 0 0 []) t
        (r.t, r.spelling, r.cycleWord, r.head, r.tail, r.count) == (0, some "push 10", some 0x20A, 0, 1, 1))
    | .fault _ => false
    | .refused _ => false) (exec (.push (Bus.ofNat 10)) (block p4 0 0 [])) = true := by decide
/-- A step of the software queue: the producer's load before the consumer's store sees the full buffer (R61). -/
theorem test_software_stale_load :
    ((Software.idle (block p2 0 1 [(0, 8)])).run
      [.producerLoad, .consumerLoad, .consumerStore, .producerStore 9]).pushResult = some false := by decide

/-! ## Witnesses: every statement's hypotheses are met -/

theorem witness_CycleWordRoundTrip : (Instr.push (Bus.ofNat 255)).wf 8 = true ∧
    encodeWord 8 (.push (Bus.ofNat 255)) = some 0x2FF := by decide
theorem witness_EveryCommandHasCycleWord : 255 < 2 ^ 8 := by decide
theorem witness_EveryCycleWordDecodes : 0x7FF < 2 ^ (8 + 3) := by decide

/-- An empty block of 4, a block with one free slot, a full block, a wrapped full block. -/
def empty4 : State := block p4 0 0 []
def room4 : State := block p4 3 1 [(0, 0x32), (3, 0x28)]
def full4 : State := block p4 2 1 [(0, 0x32), (1, 0x0A), (2, 0x14), (3, 0x1E)]

def xInput : CycleInput := { rst := .lo, pushReq := .lo, popReq := .z, pushData := Bus.ofNat 0 }

theorem witness_UncleanInputsRefused :
    ((empty4.withEvents [.cycle xInput]).events = [.cycle xInput] ∧ xInput.popReq.bit? = none) ∧
    (empty4.constructed = true ∧ (empty4.tail + 1) % empty4.params.C ≠ empty4.head ∧
      7 < empty4.params.W ∧ ({ value := 0, unclean := 128 } : Bus).unclean.testBit 7 = true) ∧
    (full4.constructed = true ∧ (full4.tail + 1) % full4.params.C = full4.head) := by decide
theorem witness_IgnoredPushDataHasNoEffect : (full4.tail + 1) % full4.params.C = full4.head := by decide
theorem witness_StepRunsDecodedInstruction :
    (empty4.withEvents [.sample .full]).events = [.sample .full] ∧ decodeEvent (.sample .full) = .ok .full := by decide
theorem witness_StepHoldsStateWithoutCycle : State.reset.events = [] := by decide
/-- One witness for each refusal, the first after a step that went through. -/
theorem witness_RefusalLastsForTheRun :
    (∃ t, runFor 1 (empty4.withEvents [encodeEvent .nop, .cycle xInput]) = .next t ∧ t.events = [.cycle xInput] ∧
      xInput.popReq.bit? = none) ∧
    (runFor 0 ((unbuilt p4).withEvents [encodeEvent .nop]) = .next ((unbuilt p4).withEvents [encodeEvent .nop]) ∧
      (unbuilt p4).constructed = false) ∧
    (empty4.constructed = true ∧ (empty4.tail + 1) % empty4.params.C ≠ empty4.head ∧
      7 < empty4.params.W ∧ ({ value := 0, unclean := 128 } : Bus).unclean.testBit 7 = true) :=
  ⟨⟨_, rfl, rfl, by decide⟩, ⟨rfl, by decide⟩, by decide⟩
theorem witness_NopCompletesAndWritesNothing : empty4.constructed = true := by decide
theorem witness_PushStoresElement : empty4.constructed = true ∧ (empty4.tail + 1) % empty4.params.C ≠ empty4.head ∧
    (Bus.ofNat 255).unclean % 2 ^ empty4.params.W = 0 := by decide
theorem witness_PushWhenFullChangesNothing : full4.constructed = true ∧ (full4.tail + 1) % full4.params.C = full4.head := by
  decide
theorem witness_PopReturnsElement : full4.constructed = true ∧ full4.head ≠ full4.tail := by decide
theorem witness_PushPopDoesBoth : room4.constructed = true ∧ (room4.tail + 1) % room4.params.C ≠ room4.head ∧
    room4.head ≠ room4.tail ∧ (Bus.ofNat 255).unclean % 2 ^ room4.params.W = 0 := by decide
theorem witness_PushPopDecidesEachSideAlone :
    ((empty4.tail + 1) % empty4.params.C ≠ empty4.head ∧ empty4.head = empty4.tail) ∧
    ((full4.tail + 1) % full4.params.C = full4.head ∧ full4.head ≠ full4.tail) ∧
    (((block p1 0 0 []).tail + 1) % (block p1 0 0 []).params.C = (block p1 0 0 []).head ∧
      (block p1 0 0 []).head = (block p1 0 0 []).tail) := by decide
theorem witness_EmptyDetection : (block p4 3 3 []).constructed = true ∧ (block p4 3 3 []).head = (block p4 3 3 []).tail := by
  decide
theorem witness_EveryDataCommandTakesOneCycle : full4.constructed = true ∧ (Bus.ofNat 0).unclean % 2 ^ full4.params.W = 0 := by
  decide
theorem witness_CyclesBeforeFirstReset : (unbuilt p4).constructed = false := by decide
theorem witness_ConstructFaultsExactlyWhenInvalid :
    ((∃ k, 2 ^ 16 = 2 ^ k ∧ k ≤ State.reset.params.maxLog2C) ∧ 1 ≤ 1) ∧
    ¬ ((∃ k, 4 = 2 ^ k ∧ k ≤ State.reset.params.maxLog2C) ∧ 1 ≤ 0) := ⟨⟨⟨16, rfl, by decide⟩, by decide⟩, by simp⟩
theorem witness_ConstructGivesPowerUpState : ∃ t, exec (.construct 8 1) State.reset = .next t := ⟨_, rfl⟩
theorem witness_EmptySampleIsExact : full4.constructed = true := by decide
theorem witness_FullSampleIsExact : empty4.constructed = true := by decide
theorem witness_FlagsTogether : full4.Ready ∧ 2 ≤ full4.params.C ∧ full4.count = full4.params.C - 1 ∧
    empty4.Ready ∧ empty4.count = 0 ∧ room4.Ready ∧ room4.count ≠ 0 ∧ room4.count ≠ room4.params.C - 1 := by decide
theorem witness_CapacityAssembly : (block p1 0 0 []).params.k = 0 ∧ 1 ≤ (block p2 0 0 []).params.k := by decide

def nopEdge : State := full4.dataEdge false false (Bus.ofNat 0)

theorem witness_StatusIdempotent :
    exec (decodeCmd false false false (Bus.ofNat 0)) full4 = .next nopEdge ∧
    nopEdge.trace = full4.trace ++ [full4.dataRecord false false (Bus.ofNat 0)] ∧
    (full4.dataRecord false false (Bus.ofNat 0)).out.pushOk = false ∧
    (full4.dataRecord false false (Bus.ofNat 0)).out.popOk = false ∧
    exec (decodeCmd true false false (Bus.ofNat 0)) nopEdge = .next (nopEdge.resetEdge false false) :=
  ⟨rfl, rfl, rfl, rfl, rfl⟩

/-- A full block popped: `full` falls; an empty block pushed: `empty` falls. -/
theorem witness_FlagsMoveOnlyByTheirSide :
    full4.Ready ∧ exec (decodeCmd false false true (Bus.ofNat 0)) full4 = .next (full4.dataEdge false true (Bus.ofNat 0)) ∧
    full4.fullPort = true ∧ (full4.dataEdge false true (Bus.ofNat 0)).fullPort = false ∧
    empty4.Ready ∧ exec (decodeCmd false true false (Bus.ofNat 1)) empty4 = .next (empty4.dataEdge true false (Bus.ofNat 1)) ∧
    empty4.emptyPort = true ∧ (empty4.dataEdge true false (Bus.ofNat 1)).emptyPort = false :=
  ⟨by decide, rfl, by decide, by decide, by decide, rfl, by decide, by decide⟩
/-- The other way: `full` rises by a push, `empty` by a pop and by a RESET. -/
theorem witness_FlagsMoveOnlyByTheirSide_rising :
    (block p2 0 0 []).fullPort = false ∧ ((block p2 0 0 []).dataEdge true false (Bus.ofNat 1)).fullPort = true ∧
    (block p2 0 1 [(0, 5)]).emptyPort = false ∧
    ((block p2 0 1 [(0, 5)]).dataEdge false true (Bus.ofNat 0)).emptyPort = true ∧
    ((block p2 0 1 [(0, 5)]).resetEdge false false).emptyPort = true := by decide
theorem witness_IndexIncrementWraps : 3 < p4.C ∧ 3 = p4.C - 1 ∧ 2 < p4.C - 1 ∧ 0 < p1.C := by decide
theorem witness_EmptyIffCountZero : (block p4 3 3 []).Ready := by decide
theorem witness_FullIffOneSlotLeft : full4.Ready ∧ 2 ≤ full4.params.C ∧ (block p1 0 0 []).Ready ∧
    (block p1 0 0 []).params.C = 1 := by decide
theorem witness_CountIsDifferenceModC : (block p4 1 3 []).Ready ∧ (block p4 3 1 []).Ready := by decide
theorem witness_CountLaw : room4.Ready ∧
    exec (decodeCmd false true true (Bus.ofNat 9)) room4 = .next (room4.dataEdge true true (Bus.ofNat 9)) ∧
    exec (.reset .none) room4 = .next (room4.resetEdge false false) := ⟨by decide, rfl, rfl⟩
theorem witness_NoSharedSlotInACycle : room4.Ready ∧
    exec (.pushPop (Bus.ofNat 9)) room4 = .next (room4.dataEdge true true (Bus.ofNat 9)) ∧
    (room4.dataRecord true true (Bus.ofNat 9)).out.pushOk = true ∧
    (room4.dataRecord true true (Bus.ofNat 9)).out.popOk = true := ⟨by decide, rfl, by decide, by decide⟩
theorem witness_PushNeverWritesLiveSlot : room4.Ready ∧ 1 < room4.count ∧
    exec (decodeCmd false true false (Bus.ofNat 9)) room4 = .next (room4.dataEdge true false (Bus.ofNat 9)) ∧
    (room4.dataRecord true false (Bus.ofNat 9)).out.pushOk = true ∧ full4.Ready ∧ full4.fullPort = true :=
  ⟨by decide, by decide, rfl, by decide, by decide, by decide⟩
theorem witness_DegenerateSizeOne : (block p1 0 0 []).Ready ∧ (block p1 0 0 []).params.C = 1 := by decide
theorem witness_ResultCodes :
    exec (decodeCmd true true false (Bus.ofNat 9)) room4 = .next (room4.resetEdge true false) ∧
    exec (decodeCmd false true true (Bus.ofNat 9)) full4 = .next (full4.dataEdge true true (Bus.ofNat 9)) := ⟨rfl, rfl⟩
theorem witness_SingleWriterPerIndex : (∀ C W, Instr.pushPop (Bus.ofNat 9) ≠ .construct C W) ∧
    exec (.pushPop (Bus.ofNat 9)) room4 = .next (room4.dataEdge true true (Bus.ofNat 9)) ∧
    (room4.dataEdge true true (Bus.ofNat 9)).head ≠ room4.head ∧
    (room4.dataEdge true true (Bus.ofNat 9)).tail ≠ room4.tail := ⟨by simp, rfl, by decide, by decide⟩
theorem witness_OnlyElaborationChangesParameters :
    exec (.reset .none) (unbuilt p4) = .next ((unbuilt p4).resetEdge false false) ∧
    (∃ t, exec (.construct 2 8) empty4 = .next t ∧ t.params ≠ empty4.params ∧ t.constructed = false) :=
  ⟨rfl, ⟨_, rfl, by decide, rfl⟩⟩
theorem witness_OnlyNamedStops : exec (.construct 3 8) empty4 = .fault (.configInvalid 3 8 16) ∧
    exec (.push { value := 0, unclean := 1 }) empty4 = .refused .inputUnknown ∧
    exec .pop (unbuilt p4) = .refused .notConstructed := ⟨rfl, rfl, rfl⟩

/-- One cycle of history: the element 5 was accepted into a block of 2. -/
def pushedFive : CycleRecord :=
  { rst := false, pushReq := true, popReq := false, constructed := true, pushed := some 5,
    out := { pushOk := true, popOk := false, empty := true, full := false, capacity := 1, popData := 77 } }

/-- A block of 2 that holds 5 in its last slot, with the history that brought it there and a pop to come. -/
def holdsFive : State :=
  { block p2 1 0 [(1, 5)] with events := [encodeEvent .pop], trace := [pushedFive], draws := 1 }

theorem holdsFive_inv : holdsFive.Inv where
  headWidth := by decide
  tailWidth := by decide
  indices := by decide
  storageForm := by decide
  records := by
    intro r hr
    obtain rfl : r = pushedFive := by simpa [holdsFive] using hr
    exact ⟨by decide, by decide, by decide, by intro v hv; cases hv; decide, by decide, by decide⟩
  noCycleYet := by decide
  fifo := by decide

theorem witness_StepKeepsInvariant : holdsFive.Inv ∧ ∃ t, step holdsFive = .next t := ⟨holdsFive_inv, _, rfl⟩
theorem witness_runs_from_an_invariant_state :
    holdsFive.Inv ∧ ∃ t, runFor 3 holdsFive = .next t ∧ t.constructed = true := ⟨holdsFive_inv, _, rfl, rfl⟩
theorem witness_IndicesStayInRange : (∀ x, Instr.pop ≠ .reset x) ∧ (∀ C W, Instr.pop ≠ .construct C W) ∧
    exec .pop holdsFive = .next (holdsFive.dataEdge false true (Bus.ofNat 0)) ∧
    (holdsFive.dataEdge false true (Bus.ofNat 0)).head ≠ holdsFive.head := ⟨by simp, by simp, rfl, by decide⟩
theorem witness_CycleRefinesQueue : room4.Ready ∧ (Bus.ofNat 9).unclean % 2 ^ room4.params.W = 0 ∧
    room4.queue = [0x28, 0x32] := by decide
theorem witness_FullDetection :
    ((block p2 1 1 []).withEvents ([5, 6].map (fun v => encodeEvent (.push (Bus.ofNat v))) ++ [encodeEvent .pop])).Ready ∧
    ((block p2 1 1 []).withEvents ([5, 6].map (fun v => encodeEvent (.push (Bus.ofNat v))) ++ [encodeEvent .pop])).queue = [] ∧
    [5].length = p2.C - 1 ∧ (∀ v ∈ [5], v < 2 ^ p2.W) ∧ 6 < 2 ^ p2.W := by decide
/-- A block of 2 with a rejected pop, a sampling and an idle cycle around its one push. -/
def padded : State :=
  (block p2 1 1 []).withEvents [encodeEvent .pop, .sample .full, encodeEvent (.push (Bus.ofNat 5)), encodeEvent .nop]

theorem noneResetNorPopped {rs : List CycleRecord} (h : rs.all (fun a => !a.rst && !a.out.popOk) = true) :
    ∀ a ∈ rs, a.rst = false ∧ a.out.popOk = false := by simpa using h

theorem witness_FullDetectionAmongOtherCycles : padded.Ready ∧ padded.queue = [] ∧ noElaboration padded.events ∧
    ∃ t, runFor 4 padded = .next t ∧ (∀ a ∈ t.trace, a.rst = false ∧ a.out.popOk = false) ∧ padded.trace = [] ∧
      (t.trace.filter (·.pushReq)).length = padded.params.C - 1 ∧ t.trace.filterMap (·.pushed) = [5] :=
  ⟨by decide, by decide, by intro C W h; simp [padded, encodeEvent, State.withEvents] at h,
    _, rfl, noneResetNorPopped rfl, rfl, rfl, rfl⟩
theorem witness_PushVisibleToPopNextCycle : empty4.Ready ∧ empty4.queue = [] ∧ 2 ≤ empty4.params.C ∧
    (Bus.ofNat 255).unclean % 2 ^ empty4.params.W = 0 := by decide
theorem witness_PopFreesSlotNextCycle : full4.Ready ∧ full4.queue.length = full4.params.C - 1 ∧ 2 ≤ full4.params.C ∧
    (Bus.ofNat 255).unclean % 2 ^ full4.params.W = 0 := by decide

theorem witness_pop_of_a_ready_block : room4.Ready ∧
    exec (decodeCmd false true true (Bus.ofNat 9)) room4 = .next (room4.dataEdge true true (Bus.ofNat 9)) ∧
    (room4.dataEdge true true (Bus.ofNat 9)).trace = room4.trace ++ [room4.dataRecord true true (Bus.ofNat 9)] ∧
    (room4.dataRecord true true (Bus.ofNat 9)).returned = some 0x28 := ⟨by decide, rfl, rfl, by decide⟩

/-- The element 7 at slot 0, and the element 7 at slot 3 with a stale slot and other free draws. -/
def sevenAtZero : State := { block p4 0 1 [(0, 7)] with events := [encodeEvent .pop, encodeEvent .empty] }
def sevenAtThree : State :=
  { block p4 3 0 [(1, 9), (3, 7)] with events := [encodeEvent .pop, encodeEvent .empty], draws := 12, powerUpId := 5 }

theorem witness_EqualQueuesGiveEqualObservations : SameView sevenAtZero sevenAtThree ∧ noElaboration sevenAtZero.events :=
  ⟨⟨by decide, by decide, rfl, by decide, rfl, rfl, rfl⟩, by
    intro C W h
    simp [sevenAtZero, encodeEvent] at h⟩
theorem witness_CycleEqualsSoftwareInterleaving : room4.Ready ∧ (Bus.ofNat 9).unclean % 2 ^ room4.params.W = 0 ∧
    [ThreadStep.consumerStore, .producerStore ((Bus.ofNat 9).value % 2 ^ room4.params.W)] =
      [.consumerStore, .producerStore 9] := by decide
theorem witness_StorageReadsWhatWasWritten : (3 : Nat) ≠ 2 ∧ 3 < 4 ∧ 255 < 2 ^ 8 ∧
    Memory.wf 4 8 [(0, 0x32), (3, 255)] = true := by decide
theorem witness_SpellingsReadBack : (Instr.reset (.pushPop (Bus.ofNat 255))).wf 8 = true ∧
    (encodeWord 8 (.reset (.pushPop (Bus.ofNat 255)))).isSome = true ∧
    Instr.spelling (.reset (.pushPop (Bus.ofNat 255))) = some "reset.pushpop 255" := by decide

end Sys2Proof.Tests
end

/-! # Proofs: scope (00_scope.md) -/

/-! ## Storage in canonical form is determined by what it reads (00_scope.md R14, log entry 6) -/

namespace Sys2Proof.Machine

theorem Memory.read?_cons_self (a v : Nat) (rest : Memory) : Memory.read? ((a, v) :: rest) a = some v := by
  simp [Memory.read?]

theorem Memory.read?_cons_of_ne {a i : Nat} (v : Nat) (rest : Memory) (h : a ≠ i) :
    Memory.read? ((a, v) :: rest) i = Memory.read? rest i := by
  simp [Memory.read?, h]

theorem Memory.wfFrom_cons_iff {C W lo a v : Nat} {rest : Memory} :
    Memory.wfFrom C W lo ((a, v) :: rest) = true ↔
      lo ≤ a ∧ a < C ∧ v < 2 ^ W ∧ Memory.wfFrom C W (a + 1) rest = true := by
  simp [Memory.wfFrom, and_assoc]

/-- A listed slot does not lie below the bound its list rises from. -/
theorem Memory.le_of_read?_eq_some {C W lo i v : Nat} {m : Memory} (hm : Memory.wfFrom C W lo m = true)
    (h : Memory.read? m i = some v) : lo ≤ i := by
  induction m generalizing lo with
  | nil => simp at h
  | cons c rest ih =>
    obtain ⟨a, w⟩ := c
    obtain ⟨hlo, -, -, hrest⟩ := Memory.wfFrom_cons_iff.mp hm
    by_cases hai : a = i
    · omega
    · rw [Memory.read?_cons_of_ne w rest hai] at h
      have := ih hrest h
      omega

/-- The first slot of a canonical list is the least slot listed. -/
theorem Memory.head_le_of_read?_eq_some {C W lo a v i u : Nat} {rest : Memory}
    (hm : Memory.wfFrom C W lo ((a, v) :: rest) = true) (h : Memory.read? ((a, v) :: rest) i = some u) : a ≤ i := by
  obtain ⟨-, haC, hv, hrest⟩ := Memory.wfFrom_cons_iff.mp hm
  exact Memory.le_of_read?_eq_some (Memory.wfFrom_cons_iff.mpr ⟨le_rfl, haC, hv, hrest⟩) h

/-- The slot at the front of a canonical list is not listed again behind it. -/
theorem Memory.read?_eq_none_of_wfFrom_succ {C W a : Nat} {rest : Memory}
    (hm : Memory.wfFrom C W (a + 1) rest = true) : Memory.read? rest a = none := by
  cases h : Memory.read? rest a with
  | none => rfl
  | some v => exact absurd (Memory.le_of_read?_eq_some hm h) (Nat.not_succ_le_self a)

/-- Canonical lists that read alike are equal: both start with the least listed slot, and behind it they read alike
again. -/
theorem Memory.wfFrom_ext {C W lo : Nat} {m m' : Memory} (hm : Memory.wfFrom C W lo m = true)
    (hm' : Memory.wfFrom C W lo m' = true) (h : ∀ i, Memory.read? m i = Memory.read? m' i) : m = m' := by
  induction m generalizing lo m' with
  | nil =>
    cases m' with
    | nil => rfl
    | cons c' rest' =>
      obtain ⟨a', v'⟩ := c'
      simpa [Memory.read?_cons_self] using h a'
  | cons c rest ih =>
    obtain ⟨a, v⟩ := c
    cases m' with
    | nil => simpa [Memory.read?_cons_self] using h a
    | cons c' rest' =>
      obtain ⟨a', v'⟩ := c'
      have hva : Memory.read? ((a', v') :: rest') a = some v := by rw [← h, Memory.read?_cons_self]
      have hva' : Memory.read? ((a, v) :: rest) a' = some v' := by rw [h, Memory.read?_cons_self]
      obtain rfl : a = a' :=
        le_antisymm (Memory.head_le_of_read?_eq_some hm hva') (Memory.head_le_of_read?_eq_some hm' hva)
      obtain rfl : v' = v := by simpa [Memory.read?_cons_self] using hva
      obtain ⟨-, -, -, hrest⟩ := Memory.wfFrom_cons_iff.mp hm
      obtain ⟨-, -, -, hrest'⟩ := Memory.wfFrom_cons_iff.mp hm'
      have alike (i : Nat) : Memory.read? rest i = Memory.read? rest' i := by
        by_cases hai : a = i
        · subst hai
          rw [Memory.read?_eq_none_of_wfFrom_succ hrest, Memory.read?_eq_none_of_wfFrom_succ hrest']
        · simpa only [Memory.read?_cons_of_ne _ _ hai] using h i
      rw [ih hrest hrest' alike]

theorem Memory.wf_ext {C W : Nat} {m m' : Memory} (hm : Memory.wf C W m = true) (hm' : Memory.wf C W m' = true)
    (h : ∀ i, Memory.read? m i = Memory.read? m' i) : m = m' :=
  Memory.wfFrom_ext hm hm' h

/-- Settles O55, from the laws of a write and extensionality of the canonical form. -/
theorem storageReadsWhatWasWritten : Obligations.StorageReadsWhatWasWritten :=
  ⟨fun s i _ v => ⟨s.memRead_memWrite_same i v, s.memRead_memWrite_other v⟩,
    fun _ _ _ _ _ => Memory.wf_write,
    fun _ _ _ _ => Memory.wf_ext⟩

end Sys2Proof.Machine

/-! ## The step (00_scope.md R16, 30_encoding.md R72) -/

namespace Sys2Proof

@[simp] theorem Level.bit?_ofBit (b : Bool) : (Level.ofBit b).bit? = some b := by cases b <;> rfl

/-- Clean request wires are never refused (R78, R80). -/
@[simp] theorem decodeInput_clean (rst pushReq popReq : Bool) (data : Bus) :
    decodeInput (.clean rst pushReq popReq data) = .ok (decodeCmd rst pushReq popReq data) := by
  simp [decodeInput, CycleInput.clean]

/-- Bits 2 to 0 of a table word are the command, the bits above are `push_data` (log entry 9). -/
theorem decodeInput_tableInput (w : Nat) :
    decodeInput (tableInput w) =
      .ok (decodeCmd (w.testBit 2) (w.testBit 1) (w.testBit 0) (Bus.ofNat (w / 8))) :=
  decodeInput_clean ..

theorem decodeTableWord_eq_some (nbits w : Nat) :
    decodeTableWord nbits w =
      some (decodeCmd (w.testBit 2) (w.testBit 1) (w.testBit 0) (Bus.ofNat (w / 8))) := by
  simp only [decodeTableWord, decodeInput_tableInput]

end Sys2Proof

namespace Sys2Proof.Machine

theorem step_of_decodeEvent_eq_ok {s : State} {e : Event} {rest : List Event} {i : Instr} (hs : s.events = e :: rest)
    (he : decodeEvent e = .ok i) : step s = exec i (s.withEvents rest) := by
  simp only [step, hs, he]

/-- Taking the presented word off the stream again leaves the state it was presented to. -/
@[simp] theorem State.withFetchWord_withEvents (s : State) (nbits w : Nat) :
    (s.withFetchWord nbits w).withEvents s.events = s := rfl

/-- The next step runs the command of a table word presented in the next cycle. -/
theorem step_withFetchWord (s : State) (nbits w : Nat) :
    step (s.withFetchWord nbits w) =
      exec (decodeCmd (w.testBit 2) (w.testBit 1) (w.testBit 0) (Bus.ofNat (w / 8))) s := by
  have presented : (s.withFetchWord nbits w).events = .cycle (tableInput w) :: s.events := rfl
  rw [step_of_decodeEvent_eq_ok presented (decodeInput_tableInput w), State.withFetchWord_withEvents]

/-- Settles O7, from what a step does with an event that decodes and with a table word. -/
theorem stepRunsDecodedInstruction : Obligations.StepRunsDecodedInstruction :=
  ⟨fun _ _ _ _ => step_of_decodeEvent_eq_ok,
    fun s nbits w => ⟨_, decodeTableWord_eq_some nbits w, step_withFetchWord s nbits w⟩⟩

end Sys2Proof.Machine

/-! # Proofs: state (10_state.md) -/

/-! ## Index arithmetic without `mod` -/

namespace Sys2Proof

theorem Params.next_cases (p : Params) {x : Nat} (h : x < p.C) :
    x + 1 < p.C ∧ p.next x = x + 1 ∨ x + 1 = p.C ∧ p.next x = 0 := by
  rw [p.next_eq_mod]
  rcases Nat.lt_or_eq_of_le h with inside | wraps
  · exact .inl ⟨inside, Nat.mod_eq_of_lt inside⟩
  · exact .inr ⟨wraps, by rw [show x + 1 = p.C from wraps, Nat.mod_self]⟩

end Sys2Proof

/-! ## The count and the live slots (R31 to R34) -/

namespace Sys2Proof.Machine

section QueueView

variable {s : State}

theorem State.count_eq_mod (s : State) : s.count = (s.tail + s.params.C - s.head) % s.params.C :=
  s.params.and_mask _

theorem State.count_lt (s : State) : s.count < s.params.C := by
  rw [s.count_eq_mod]
  exact Nat.mod_lt _ s.params.C_pos

theorem State.liveSlot_eq_mod (s : State) (j : Nat) : s.liveSlot j = (s.head + j) % s.params.C :=
  s.params.and_mask _

theorem State.length_queue (s : State) : s.queue.length = s.count := by simp [State.queue]

theorem State.count_eq_zero_of_head_eq_tail (h : s.head = s.tail) : s.count = 0 := by
  rw [s.count_eq_mod, h, Nat.add_sub_cancel_left, Nat.mod_self]

theorem State.queue_eq_nil_of_head_eq_tail (h : s.head = s.tail) : s.queue = [] := by
  rw [State.queue, State.count_eq_zero_of_head_eq_tail h, List.range_zero, List.map_nil]

/-- Advancing `head` moves every place of the queue one slot on. -/
theorem State.liveSlot_withHead_next (s : State) (j : Nat) :
    (s.withHead (s.params.next s.head)).liveSlot j = s.liveSlot (j + 1) := by
  simp only [State.liveSlot_eq_mod, State.withHead_head, State.withHead_params, Params.next_eq_mod, Nat.mod_add_mod]
  congr 1
  omega

variable (ready : s.Ready)

include ready

/-- R31 in the two cases of where `tail` stands. -/
theorem State.count_cases :
    s.head ≤ s.tail ∧ s.count + s.head = s.tail ∨ s.tail < s.head ∧ s.count + s.head = s.tail + s.params.C := by
  have ⟨_, hhead, htail⟩ := ready
  rw [s.count_eq_mod]
  rcases Nat.lt_or_ge s.tail s.head with lt | le
  · rw [Nat.mod_eq_of_lt (by omega)]
    omega
  · rw [Nat.sub_add_comm le, Nat.add_mod_right, Nat.mod_eq_of_lt (by omega)]
    omega

theorem State.count_eq_zero_iff : s.count = 0 ↔ s.head = s.tail := by
  have ⟨_, hhead, htail⟩ := ready
  have count_cases := State.count_cases ready
  omega

/-- R33, for `C = 1` too, where both sides always hold. -/
theorem State.count_eq_usable_iff : s.count = s.params.C - 1 ↔ (s.tail + 1) % s.params.C = s.head := by
  have ⟨_, hhead, htail⟩ := ready
  have count_cases := State.count_cases ready
  have next_cases := s.params.next_cases htail
  rw [← Params.next_eq_mod]
  omega

theorem State.liveSlot_cases {j : Nat} (hj : j < s.params.C) :
    s.liveSlot j = s.head + j ∧ s.head + j < s.params.C ∨ s.liveSlot j + s.params.C = s.head + j := by
  have ⟨_, hhead, _⟩ := ready
  rw [s.liveSlot_eq_mod]
  rcases Nat.lt_or_ge (s.head + j) s.params.C with lt | ge
  · exact .inl ⟨Nat.mod_eq_of_lt lt, lt⟩
  · rw [Nat.mod_eq_sub_mod ge, Nat.mod_eq_of_lt (by omega)]
    omega

theorem State.liveSlot_zero : s.liveSlot 0 = s.head := by
  have ⟨_, hhead, _⟩ := ready
  rw [s.liveSlot_eq_mod, Nat.add_zero, Nat.mod_eq_of_lt hhead]

/-- The slot after the last live one is `tail`. -/
theorem State.liveSlot_count : s.liveSlot s.count = s.tail := by
  have ⟨_, hhead, htail⟩ := ready
  have slot_cases := State.liveSlot_cases ready s.count_lt
  have count_cases := State.count_cases ready
  omega

theorem State.liveSlot_ne_tail {j : Nat} (hj : j < s.count) : s.liveSlot j ≠ s.tail := by
  have ⟨_, hhead, htail⟩ := ready
  have slot_cases := State.liveSlot_cases ready (hj.trans s.count_lt)
  have count_cases := State.count_cases ready
  omega

/-! ## What advancing one index does to the queue (R34, R102, R103) -/

theorem State.count_withHead_next (nonempty : s.head ≠ s.tail) :
    (s.withHead (s.params.next s.head)).count + 1 = s.count := by
  have ⟨constructed, hhead, htail⟩ := ready
  have next_cases := s.params.next_cases hhead
  have before := State.count_cases ready
  have after := State.count_cases (s := s.withHead (s.params.next s.head)) ⟨constructed, s.params.next_lt _, htail⟩
  simp only [State.withHead_head, State.withHead_tail, State.withHead_params] at after
  omega

theorem State.count_withTail_next (room : (s.tail + 1) % s.params.C ≠ s.head) :
    (s.withTail (s.params.next s.tail)).count = s.count + 1 := by
  have ⟨constructed, hhead, htail⟩ := ready
  have next_cases := s.params.next_cases htail
  have before := State.count_cases ready
  have after := State.count_cases (s := s.withTail (s.params.next s.tail)) ⟨constructed, hhead, s.params.next_lt _⟩
  simp only [State.withTail_head, State.withTail_tail, State.withTail_params] at after
  rw [← Params.next_eq_mod] at room
  omega

/-- A pop takes the element in slot `head` from the front. -/
theorem State.queue_eq_cons (nonempty : s.head ≠ s.tail) :
    s.queue = s.memRead s.head :: (s.withHead (s.params.next s.head)).queue := by
  simp only [State.queue, ← State.count_withHead_next ready nonempty, List.range_succ_eq_map, List.map_cons,
    List.map_map, State.liveSlot_zero ready, State.memRead_withHead, State.liveSlot_withHead_next]
  rfl

/-- A push adds its element at the end: it goes to the slot after the last live one, and to no live one. -/
theorem State.queue_push (room : (s.tail + 1) % s.params.C ≠ s.head) (v : Nat) :
    ((s.memWrite s.tail v).withTail (s.params.next s.tail)).queue = s.queue ++ [v] := by
  have count_eq : ((s.memWrite s.tail v).withTail (s.params.next s.tail)).count = s.count + 1 :=
    State.count_withTail_next ready room
  have live (j : Nat) : ((s.memWrite s.tail v).withTail (s.params.next s.tail)).liveSlot j = s.liveSlot j := rfl
  have kept : ∀ j ∈ List.range s.count, (s.memWrite s.tail v).memRead (s.liveSlot j) = s.memRead (s.liveSlot j) :=
    fun j hj => s.memRead_memWrite_other v (State.liveSlot_ne_tail ready (List.mem_range.mp hj))
  simp only [State.queue, count_eq, live, State.memRead_withTail, List.range_succ, List.map_append, List.map_cons,
    List.map_nil, State.liveSlot_count ready, State.memRead_memWrite_same, List.map_congr_left kept]

end QueueView

/-- Settles O33: of a ready block the count is 0 exactly where the indices meet. -/
theorem emptyIffCountZero : Obligations.EmptyIffCountZero := by
  intro s ready
  have port : s.emptyPort = true ↔ s.head = s.tail := by
    rw [s.emptyPort_of_constructed ready.1, decide_eq_true_iff]
  exact ⟨port, port.trans (State.count_eq_zero_iff ready).symm⟩

/-- Settles O34: `count = C - 1` marks the full buffer for every `C`; for `C = 1` the count has no other value. -/
theorem fullIffOneSlotLeft : Obligations.FullIffOneSlotLeft := by
  intro s ready
  have port : s.fullPort = true ↔ (s.tail + 1) % s.params.C = s.head := by
    rw [s.fullPort_of_constructed ready.1, decide_eq_true_iff]
  have full : s.fullPort = true ↔ s.count = s.params.C - 1 := port.trans (State.count_eq_usable_iff ready).symm
  refine ⟨port, fun _ => full, fun one => ?_⟩
  have count_zero : s.count = 0 := by have := s.count_lt; omega
  have count_usable : s.count = s.params.C - 1 := by omega
  exact ⟨full.mpr count_usable, count_zero, count_usable⟩

/-- Settles O35, from the two cases of where `tail` stands. -/
theorem countIsDifferenceModC : Obligations.CountIsDifferenceModC := by
  intro s ready
  have count_cases := State.count_cases ready
  exact ⟨s.count_lt, by omega, by omega, s.length_queue⟩

end Sys2Proof.Machine

/-! ## The queue and the history over one cycle (R107, R108) -/

namespace Sys2Proof.Machine

section History

variable {s : State} (pushReq popReq : Bool) (data : Bus)

theorem acceptedSinceReset_concat (tr : List CycleRecord) (r : CycleRecord) :
    acceptedSinceReset (tr ++ [r]) = historyStep CycleRecord.pushed (acceptedSinceReset tr) r := by
  simp [acceptedSinceReset]

theorem returnedSinceReset_concat (tr : List CycleRecord) (r : CycleRecord) :
    returnedSinceReset (tr ++ [r]) = historyStep CycleRecord.returned (returnedSinceReset tr) r := by
  simp [returnedSinceReset]

theorem historyStep_of_rst (f : CycleRecord → Option Nat) (acc : List Nat) {r : CycleRecord} (h : r.rst = true) :
    historyStep f acc r = [] := by simp [historyStep, h]

theorem historyStep_of_not_rst (f : CycleRecord → Option Nat) (acc : List Nat) {r : CycleRecord} (h : r.rst = false) :
    historyStep f acc r = acc ++ (f r).toList := by simp [historyStep, h]

theorem State.record_queue (s : State) (r : CycleRecord) : (s.record r).queue = s.queue := rfl

theorem State.pushEdge_queue (ready : s.Ready) :
    (s.pushEdge pushReq data s).queue = s.queue ++ (s.dataRecord pushReq popReq data).pushed.toList := by
  cases ok : s.pushOk pushReq with
  | false => simp [State.pushEdge, State.dataRecord, ok]
  | true =>
    simpa [State.pushEdge, State.dataRecord, ok] using State.queue_push ready ((s.pushOk_iff _).mp ok).2 _

/-- The producer's writes leave a non-empty block ready and non-empty, with `head` and the element there as they were. -/
theorem State.pushEdge_frame (ready : s.Ready) (nonempty : s.head ≠ s.tail) :
    (s.pushEdge pushReq data s).Ready ∧ (s.pushEdge pushReq data s).params = s.params ∧
      (s.pushEdge pushReq data s).head = s.head ∧ (s.pushEdge pushReq data s).head ≠ (s.pushEdge pushReq data s).tail ∧
      (s.pushEdge pushReq data s).memRead s.head = s.memRead s.head := by
  have ⟨constructed, hhead, htail⟩ := ready
  cases ok : s.pushOk pushReq with
  | false => simpa [State.pushEdge, ok, nonempty] using ready
  | true =>
    have room := ((s.pushOk_iff _).mp ok).2
    simp [State.pushEdge, ok, State.Ready, constructed, hhead, Params.next_eq_mod, room.symm,
      Nat.mod_lt _ s.params.C_pos, State.memRead_memWrite_other _ _ nonempty]

/-- A data cycle loses and reorders nothing: what it returned, then the queue after it, is the queue before it, then
what it accepted. -/
theorem State.returned_append_dataEdge_queue (ready : s.Ready) :
    (s.dataRecord pushReq popReq data).returned.toList ++ (s.dataEdge pushReq popReq data).queue =
      s.queue ++ (s.dataRecord pushReq popReq data).pushed.toList := by
  rw [← State.pushEdge_queue pushReq popReq data ready, State.dataEdge, State.record_queue]
  cases ok : s.popOk popReq with
  | false => simp [State.popEdge, CycleRecord.returned, State.dataRecord, State.dataOutput, ok]
  | true =>
    obtain ⟨ready', params_eq, head_eq, nonempty', read_eq⟩ :=
      State.pushEdge_frame pushReq data ready ((s.popOk_iff _).mp ok).2
    rw [State.queue_eq_cons ready' nonempty', head_eq, read_eq, params_eq]
    simp [State.popEdge, CycleRecord.returned, State.dataRecord, State.dataOutput, ok]

end History

/-! ## A reset edge starts anew (R38) -/

theorem State.resetEdge_ready (s : State) (pushReq popReq : Bool) : (s.resetEdge pushReq popReq).Ready :=
  ⟨rfl, s.params.C_pos, s.params.C_pos⟩

theorem State.resetEdge_queue (s : State) (pushReq popReq : Bool) : (s.resetEdge pushReq popReq).queue = [] :=
  State.queue_eq_nil_of_head_eq_tail rfl

/-! ## Every record is well made -/

theorem State.dataRecord_wellMade {s : State} (storage : Memory.wf s.params.C s.params.W s.storage = true)
    (pushReq popReq : Bool) (data : Bus) : (s.dataRecord pushReq popReq data).WellMade s.params where
  pushAnswers ok := ⟨((s.pushOk_iff _).mp ok).1, rfl⟩
  popAnswers ok := ⟨((s.popOk_iff _).mp ok).1, rfl⟩
  pushedIffOk := by cases ok : s.pushOk pushReq <;> simp [State.dataRecord, State.dataOutput, ok]
  pushedWidth v hv := by
    obtain ⟨-, rfl⟩ : s.pushOk pushReq = true ∧ data.element s.params.W = v := by simpa [State.dataRecord] using hv
    exact Nat.mod_lt _ (Nat.two_pow_pos _)
  popDataWidth := by
    simp only [State.dataRecord, State.dataOutput]
    split
    · exact s.memRead_lt storage _
    · exact s.freePopData_lt
  capacityValue := s.capacityPort_eq

theorem State.resetRecord_wellMade (s : State) (pushReq popReq : Bool) :
    (s.resetRecord pushReq popReq).WellMade s.params where
  pushAnswers := nofun
  popAnswers := nofun
  pushedIffOk := rfl
  pushedWidth := nofun
  popDataWidth := s.freePopData_lt
  capacityValue := s.capacityPort_eq

/-! ## The invariant: at reset, at power-up, and over each kind of step (R30, R38, R39) -/

theorem State.reset_inv : State.reset.Inv where
  headWidth := by decide
  tailWidth := by decide
  indices := by decide
  storageForm := rfl
  records := nofun
  noCycleYet := nofun
  fifo := by decide

theorem State.powerUp_inv (p : Params) (es : List Event) (n : Nat) : (State.powerUp p es n).Inv where
  headWidth := Nat.mod_lt _ (Nat.two_pow_pos _)
  tailWidth := Nat.mod_lt _ (Nat.two_pow_pos _)
  indices := nofun
  storageForm := rfl
  records := nofun
  noCycleYet _ := rfl
  fifo := nofun

section Inv

variable {s : State} (inv : s.Inv)

include inv

theorem State.Inv.ready (h : s.constructed = true) : s.Ready := ⟨h, inv.indices h⟩

theorem State.Inv.withEvents (es : List Event) : (s.withEvents es).Inv := { inv with }

theorem State.Inv.withSample (v : Sample) : (s.withSample v).Inv := { inv with }

theorem State.Inv.resetEdge (pushReq popReq : Bool) : (s.resetEdge pushReq popReq).Inv where
  headWidth := Nat.two_pow_pos _
  tailWidth := Nat.two_pow_pos _
  indices _ := (s.resetEdge_ready pushReq popReq).2
  storageForm := inv.storageForm
  records := List.forall_mem_append.mpr
    ⟨inv.records, List.forall_mem_singleton.mpr (s.resetRecord_wellMade pushReq popReq)⟩
  noCycleYet := nofun
  fifo _ := by
    rw [State.resetEdge_trace, acceptedSinceReset_concat, returnedSinceReset_concat, historyStep_of_rst _ _ rfl,
      historyStep_of_rst _ _ rfl, State.resetEdge_queue, List.append_nil]

theorem State.Inv.dataEdge (h : s.constructed = true) (pushReq popReq : Bool) (data : Bus) :
    (s.dataEdge pushReq popReq data).Inv := by
  have ready := inv.ready h
  have ⟨_, hhead, htail⟩ := ready
  have head_lt : (s.dataEdge pushReq popReq data).head < s.params.C := by
    rw [State.dataEdge_head]; split
    · exact s.params.next_lt _
    · exact hhead
  have tail_lt : (s.dataEdge pushReq popReq data).tail < s.params.C := by
    rw [State.dataEdge_tail]; split
    · exact s.params.next_lt _
    · exact htail
  have storage_wf : Memory.wf s.params.C s.params.W (s.dataEdge pushReq popReq data).storage = true := by
    rw [State.dataEdge_storage]; split
    · exact Memory.wf_write htail (Nat.mod_lt _ (Nat.two_pow_pos _)) inv.storageForm
    · exact inv.storageForm
  constructor
  case headWidth => simpa only [State.dataEdge_params] using s.params.lt_ptr_range head_lt
  case tailWidth => simpa only [State.dataEdge_params] using s.params.lt_ptr_range tail_lt
  case indices => exact fun _ => by simpa only [State.dataEdge_params] using ⟨head_lt, tail_lt⟩
  case storageForm => simpa only [State.dataEdge_params] using storage_wf
  case records =>
    rw [State.dataEdge_params, State.dataEdge_trace]
    exact List.forall_mem_append.mpr
      ⟨inv.records, List.forall_mem_singleton.mpr (State.dataRecord_wellMade inv.storageForm pushReq popReq data)⟩
  case noCycleYet => simp [h]
  case fifo =>
    intro _
    rw [State.dataEdge_trace, acceptedSinceReset_concat, returnedSinceReset_concat, historyStep_of_not_rst _ _ rfl,
      historyStep_of_not_rst _ _ rfl, inv.fifo h, List.append_assoc, List.append_assoc,
      State.returned_append_dataEdge_queue pushReq popReq data ready]

theorem State.Inv.of_exec {i : Instr} {t : State} (h : exec i s = .next t) : t.Inv := by
  obtain ⟨pushReq, popReq, data, constructed, -, rfl, -⟩ | ⟨dropped, -, rfl⟩ | ⟨v, rfl⟩ | ⟨C, W, legal, -, rfl⟩ :=
    exec_next_cases s h
  · exact inv.dataEdge constructed pushReq popReq data
  · exact inv.resetEdge _ _
  · exact inv.withSample v
  · exact State.powerUp_inv _ _ _

end Inv

/-- A step that completes held the state, for want of an event, or ran an instruction with the event taken. -/
theorem step_next_cases {s t : State} (h : step s = .next t) :
    t = s ∨ ∃ i rest, exec i (s.withEvents rest) = .next t := by
  unfold step at h
  split at h
  · exact .inl (by simpa using h.symm)
  · split at h
    · exact .inr ⟨_, _, h⟩
    · cases h

theorem State.Inv.of_step {s t : State} (inv : s.Inv) (h : step s = .next t) : t.Inv := by
  obtain rfl | ⟨i, rest, hexec⟩ := step_next_cases h
  · exact inv
  · exact (inv.withEvents rest).of_exec hexec

/-- What every step keeps holds at the end of every run. -/
theorem runFor_induction {P : State → Prop} (keeps : ∀ s t, P s → step s = .next t → P t) {n : Nat} {s t : State}
    (hs : P s) (run : runFor n s = .next t) : P t := by
  induction n generalizing s with
  | zero =>
    obtain rfl : s = t := by simpa [runFor_zero] using run
    exact hs
  | succ n ih =>
    rw [runFor_succ] at run
    split at run
    · next u hu => exact ih (keeps s u hs hu) run
    · cases run
    · cases run

theorem State.Inv.of_runFor {n : Nat} {s t : State} (inv : s.Inv) (run : runFor n s = .next t) : t.Inv :=
  runFor_induction (fun _ _ => State.Inv.of_step) inv run

/-- Settles O45, by the kinds of step; the FIFO history is kept because a data cycle loses and reorders nothing. -/
theorem stepKeepsInvariant : Obligations.StepKeepsInvariant := fun _ _ => State.Inv.of_step

/-- Settles O44: the traces are empty, and only after reset do the indices mean anything. -/
theorem invariantAtResetAndPowerUp : Obligations.InvariantAtResetAndPowerUp :=
  ⟨State.reset_inv, State.powerUp_inv⟩

/-! ## Who writes what (R21, R28, R30, R35) -/

/-- RESET completes in every state (R93). -/
theorem exec_reset (dropped : Dropped) (s : State) :
    exec (.reset dropped) s = .next (s.resetEdge dropped.pushReq dropped.popReq) := rfl

theorem exec_reset_next_iff {dropped : Dropped} {s t : State} :
    exec (.reset dropped) s = .next t ↔ t = s.resetEdge dropped.pushReq dropped.popReq := by
  simp [exec_reset, eq_comm]

/-- What an instruction of an existing block does: a data edge with no request but those of the instruction, the reset
edge of a RESET, or a sampling. -/
theorem exec_next_requests {s t : State} {i : Instr} (notConstruct : ∀ C W, i ≠ .construct C W)
    (h : exec i s = .next t) :
    (∃ pushReq popReq data, t = s.dataEdge pushReq popReq data ∧
        (pushReq = true → (∃ d, i = .push d) ∨ ∃ d, i = .pushPop d) ∧
        (popReq = true → i = .pop ∨ ∃ d, i = .pushPop d)) ∨
      (∃ dropped, i = .reset dropped ∧ t = s.resetEdge dropped.pushReq dropped.popReq) ∨
      ∃ v, t = s.withSample v := by
  cases i with
  | nop => exact .inl ⟨_, _, _, ((dataCycle_next_iff ..).mp h).2.2, nofun, nofun⟩
  | pop => exact .inl ⟨_, _, _, ((dataCycle_next_iff ..).mp h).2.2, nofun, fun _ => .inl rfl⟩
  | push d => exact .inl ⟨_, _, _, ((dataCycle_next_iff ..).mp h).2.2, fun _ => .inl ⟨d, rfl⟩, nofun⟩
  | pushPop d =>
    exact .inl ⟨_, _, _, ((dataCycle_next_iff ..).mp h).2.2, fun _ => .inr ⟨d, rfl⟩, fun _ => .inr ⟨d, rfl⟩⟩
  | reset d => exact .inr (.inl ⟨d, rfl, exec_reset_next_iff.mp h⟩)
  | empty => exact .inr (.inr ⟨_, by simpa [exec, execEmpty] using h.symm⟩)
  | full => exact .inr (.inr ⟨_, by simpa [exec, execFull] using h.symm⟩)
  | capacity => exact .inr (.inr ⟨_, by simpa [exec, execCapacity] using h.symm⟩)
  | construct C W => exact absurd rfl (notConstruct C W)

section DataEdgeWrites

variable {s : State} {pushReq popReq : Bool} {data : Bus}

theorem State.popOk_of_dataEdge_head_ne (h : (s.dataEdge pushReq popReq data).head ≠ s.head) :
    s.popOk popReq = true := by
  by_contra hn
  simp [hn] at h

theorem State.pushOk_of_dataEdge_tail_ne (h : (s.dataEdge pushReq popReq data).tail ≠ s.tail) :
    s.pushOk pushReq = true := by
  by_contra hn
  simp [hn] at h

theorem State.pushOk_of_dataEdge_memRead_ne {j : Nat}
    (h : (s.dataEdge pushReq popReq data).memRead j ≠ s.memRead j) : s.pushOk pushReq = true ∧ j = s.tail := by
  by_contra hn
  simp [State.dataEdge_memRead, hn] at h

end DataEdgeWrites

/-- Settles O41: an index or a slot that a data edge changed belongs to an accepted, hence made, request. -/
theorem singleWriterPerIndex : Obligations.SingleWriterPerIndex := by
  intro s t i notConstruct h
  obtain ⟨pushReq, popReq, data, rfl, pushed, popped⟩ | ⟨dropped, rfl, rfl⟩ | ⟨v, rfl⟩ :=
    exec_next_requests notConstruct h
  · refine ⟨fun head_ne => ?_, fun tail_ne => ?_, fun j read_ne => ?_⟩
    · exact (popped ((s.popOk_iff _).mp (State.popOk_of_dataEdge_head_ne head_ne)).1).imp_right .inl
    · exact (pushed ((s.pushOk_iff _).mp (State.pushOk_of_dataEdge_tail_ne tail_ne)).1).imp_right .inl
    · obtain ⟨ok, slot⟩ := State.pushOk_of_dataEdge_memRead_ne read_ne
      exact ⟨slot, pushed ((s.pushOk_iff _).mp ok).1⟩
  · exact ⟨fun _ => .inr (.inr ⟨_, rfl⟩), fun _ => .inr (.inr ⟨_, rfl⟩), fun j read_ne => absurd rfl read_ne⟩
  · exact ⟨absurd rfl, absurd rfl, fun _ => absurd rfl⟩

/-- Settles O42, by what each kind of instruction leaves in `params` and `constructed`. -/
theorem onlyElaborationChangesParameters : Obligations.OnlyElaborationChangesParameters := by
  intro s t i h
  obtain ⟨pushReq, popReq, data, constructed, -, rfl, -⟩ | ⟨dropped, rfl, rfl⟩ | ⟨v, rfl⟩ | ⟨C, W, _, rfl, rfl⟩ :=
    exec_next_cases s h
  · simp [constructed]
  · simp
  · simp +contextual
  · exact ⟨fun _ => ⟨C, W, rfl⟩, fun _ _ => ⟨C, W, rfl⟩, nofun⟩

/-- Settles O46, from the invariant and what each kind of instruction writes. -/
theorem indicesStayInRange : Obligations.IndicesStayInRange := by
  refine ⟨fun s t n inv run constructed => ?_, fun s t dropped h => ?_, fun s t i notReset notConstruct h => ?_⟩
  · obtain ⟨hhead, htail⟩ := (inv.of_runFor run).indices constructed
    exact ⟨hhead, htail, by omega⟩
  · obtain rfl := exec_reset_next_iff.mp h
    exact ⟨rfl, rfl⟩
  · obtain ⟨pushReq, popReq, data, rfl, -, -⟩ | ⟨dropped, rfl, -⟩ | ⟨v, rfl⟩ := exec_next_requests notConstruct h
    · constructor
      · intro head_ne
        rw [State.dataEdge_head, if_pos (State.popOk_of_dataEdge_head_ne head_ne), Params.next]
      · intro tail_ne
        rw [State.dataEdge_tail, if_pos (State.pushOk_of_dataEdge_tail_ne tail_ne), Params.next]
    · exact absurd rfl (notReset dropped)
    · exact ⟨absurd rfl, absurd rfl⟩

/-! ## A new block (R39, R90, R95) -/

/-- Settles O23: the new block meets the invariant, and its reset edge is that of any block. -/
theorem constructGivesPowerUpState : Obligations.ConstructGivesPowerUpState := by
  intro s t C W h
  obtain ⟨legal, rfl⟩ := execConstruct_next s h
  have inv := State.powerUp_inv { C := C, W := W, maxLog2C := s.params.maxLog2C, legal := legal } s.events s.draws
  exact ⟨rfl, inv.headWidth, inv.tailWidth, rfl, rfl, rfl, rfl, inv, fun dropped =>
    ⟨_, exec_reset dropped _, State.resetEdge_ready _ _ _, rfl, State.resetEdge_queue _ _ _⟩⟩

end Sys2Proof.Machine

/-! # Proofs: memory (20_memory.md) -/

/-! ## A data cycle seen through its record (41_push_pop.md R100) -/

namespace Sys2Proof.Machine

/-- Every command with `rst = 0` is the data cycle of its requests; without a push the data bus is ignored (R75). -/
theorem exec_decodeCmd_data (pushReq popReq : Bool) (data : Bus) (s : State) :
    exec (decodeCmd false pushReq popReq data) s = dataCycle pushReq popReq data s := by
  cases pushReq <;> cases popReq <;> rfl

theorem exec_pushPop (data : Bus) (s : State) : exec (.pushPop data) s = dataCycle true true data s := rfl

/-- A data cycle that completes ends in the edge's state, and the record it adds is the edge's. -/
theorem eq_dataEdge_and_dataRecord {s t : State} {pushReq popReq : Bool} {data : Bus} {r : CycleRecord}
    (h : dataCycle pushReq popReq data s = .next t) (trace : t.trace = s.trace ++ [r]) :
    t = s.dataEdge pushReq popReq data ∧ r = s.dataRecord pushReq popReq data := by
  obtain ⟨-, -, rfl⟩ := (dataCycle_next_iff ..).mp h
  exact ⟨rfl, by simpa using trace.symm⟩

/-! ## Acceptance and the live slots (R59, R62) -/

section Acceptance

variable {s : State} (ready : s.Ready)

include ready

theorem State.count_pos_of_popOk {popReq : Bool} (ok : s.popOk popReq = true) : 0 < s.count :=
  Nat.pos_of_ne_zero fun zero => ((s.popOk_iff _).mp ok).2 ((State.count_eq_zero_iff ready).mp zero)

theorem State.count_lt_usable_of_pushOk {pushReq : Bool} (ok : s.pushOk pushReq = true) :
    s.count < s.params.C - 1 := by
  have not_usable : s.count ≠ s.params.C - 1 := fun usable =>
    ((s.pushOk_iff _).mp ok).2 ((State.count_eq_usable_iff ready).mp usable)
  have := s.count_lt
  omega

theorem State.dataEdge_memRead_liveSlot (pushReq popReq : Bool) (data : Bus) {j : Nat} (hj : j < s.count) :
    (s.dataEdge pushReq popReq data).memRead (s.liveSlot j) = s.memRead (s.liveSlot j) := by
  rw [State.dataEdge_memRead, if_neg fun written => State.liveSlot_ne_tail ready hj written.2]

end Acceptance

theorem State.pushResult_dataRecord_of_full {s : State} (constructed : s.constructed = true)
    (full : s.fullPort = true) (popReq : Bool) (data : Bus) :
    (s.dataRecord true popReq data).pushResult = 2 := by
  have rejected : s.pushOk true = false := by
    simpa [State.pushOk, State.fullPort, constructed] using full
  simp [CycleRecord.pushResult, State.dataRecord, State.dataOutput, resultCode, rejected]

/-- Settles O37: the accepted pop says `head ≠ tail`, and each acceptance bounds the count on its side. -/
theorem noSharedSlotInACycle : Obligations.NoSharedSlotInACycle := by
  intro s t data r ready h trace pushed popped
  obtain ⟨-, rfl⟩ := eq_dataEdge_and_dataRecord (exec_pushPop data s ▸ h) trace
  have pushOk : s.pushOk true = true := pushed
  have popOk : s.popOk true = true := popped
  exact ⟨((s.popOk_iff _).mp popOk).2.symm, State.count_pos_of_popOk ready popOk,
    State.count_lt_usable_of_pushOk ready pushOk⟩

/-- Settles O38: a push writes slot `tail` alone, which is no live slot, and fullness is that before the edge. -/
theorem pushNeverWritesLiveSlot : Obligations.PushNeverWritesLiveSlot := by
  intro s t q data r ready h trace
  obtain ⟨rfl, rfl⟩ := eq_dataEdge_and_dataRecord (exec_decodeCmd_data true q data s ▸ h) trace
  exact ⟨fun _ => State.dataEdge_memRead_liveSlot ready true q data, fun _ _ => State.liveSlot_ne_tail ready,
    fun full => State.pushResult_dataRecord_of_full ready.1 full q data⟩

/-! ## The two sides of an edge, one after the other -/

section Edge

variable (s t : State) (pushReq popReq : Bool) (data : Bus)

@[simp] theorem State.pushEdge_params : (s.pushEdge pushReq data t).params = t.params := by
  unfold State.pushEdge; split <;> rfl

@[simp] theorem State.pushEdge_head : (s.pushEdge pushReq data t).head = t.head := by
  unfold State.pushEdge; split <;> rfl

@[simp] theorem State.popEdge_params : (s.popEdge popReq t).params = t.params := by
  unfold State.popEdge; split <;> rfl

@[simp] theorem State.popEdge_tail : (s.popEdge popReq t).tail = t.tail := by
  unfold State.popEdge; split <;> rfl

/-- The producer writes `tail` and storage, the consumer `head`: the order does not matter. -/
theorem State.pushEdge_popEdge :
    s.pushEdge pushReq data (s.popEdge popReq t) = s.popEdge popReq (s.pushEdge pushReq data t) := by
  unfold State.pushEdge State.popEdge; split <;> split <;> rfl

end Edge

/-! ## The software interleaving of a cycle (R61, log entry 16) -/

section Interleaving

variable {w : Software} (s : State)

/-- A producer that loaded the `head` of `s`, and whose own index is still that of `s`, decides and writes as the
producer's side of an edge from `s`. -/
theorem Software.step_producerStore (data : Bus) (saw : w.producerSaw = some s.head)
    (params : w.block.params = s.params) (tail : w.block.tail = s.tail) :
    w.step (.producerStore (data.element s.params.W)) =
      { w with
        block := s.pushEdge true data w.block
        producerSaw := none
        pushResult := some (s.pushOk true) } := by
  by_cases full : s.params.next s.tail = s.head <;>
    simp [Software.step, saw, params, tail, full, State.pushEdge, State.pushOk, State.fullFlag]

/-- The consumer's side likewise; the element is the one its slot holds when it stores. -/
theorem Software.step_consumerStore (saw : w.consumerSaw = some s.tail)
    (params : w.block.params = s.params) (head : w.block.head = s.head) :
    w.step .consumerStore =
      { w with
        block := s.popEdge true w.block
        consumerSaw := none
        popResult := some (if s.popOk true then some (w.block.memRead s.head) else none) } := by
  by_cases empty : s.head = s.tail <;>
    simp [Software.step, saw, params, head, empty, State.popEdge, State.popOk, State.emptyFlag]

/-- The software queue after both threads have loaded from `s`. -/
def Software.loaded (s : State) : Software :=
  { Software.idle s with producerSaw := some s.head, consumerSaw := some s.tail }

theorem Software.run_loads (stores : List ThreadStep) :
    (Software.idle s).run ([.producerLoad, .consumerLoad] ++ stores) = (Software.loaded s).run stores := rfl

/-- The software queue after both threads have stored what an edge from `s` writes and answered as it answers. -/
def Software.cycleResult (s : State) (data : Bus) : Software :=
  { block := s.popEdge true (s.pushEdge true data s)
    producerSaw := none
    consumerSaw := none
    pushResult := some (s.pushOk true)
    popResult := some (if s.popOk true then some (s.memRead s.head) else none) }

/-- An accepted pop is of a non-empty block, where the producer does not write the consumer's slot. -/
theorem State.pushEdge_memRead_head_of_popOk {s : State} (ready : s.Ready) {popReq : Bool} (ok : s.popOk popReq = true)
    (pushReq : Bool) (data : Bus) : (s.pushEdge pushReq data s).memRead s.head = s.memRead s.head := by
  obtain ⟨-, -, -, -, read_eq⟩ := State.pushEdge_frame pushReq data ready ((s.popOk_iff _).mp ok).2
  exact read_eq

theorem Software.run_producerStore_consumerStore {s : State} (ready : s.Ready) (data : Bus) :
    (Software.loaded s).run [.producerStore (data.element s.params.W), .consumerStore] =
      Software.cycleResult s data := by
  have read_eq : (if s.popOk true then some ((s.pushEdge true data s).memRead s.head) else none) =
      if s.popOk true then some (s.memRead s.head) else none := by
    split
    · next ok => rw [State.pushEdge_memRead_head_of_popOk ready ok]
    · rfl
  rw [Software.run, List.foldl_cons, List.foldl_cons, List.foldl_nil,
    Software.step_producerStore s data rfl rfl rfl,
    Software.step_consumerStore s rfl (s.pushEdge_params s true data) (s.pushEdge_head s true data),
    Software.cycleResult, ← read_eq]
  rfl

theorem Software.run_consumerStore_producerStore (data : Bus) :
    (Software.loaded s).run [.consumerStore, .producerStore (data.element s.params.W)] =
      Software.cycleResult s data := by
  rw [Software.run, List.foldl_cons, List.foldl_cons, List.foldl_nil, Software.step_consumerStore s rfl rfl rfl,
    Software.step_producerStore s data rfl (s.popEdge_params s true) (s.popEdge_tail s true),
    State.pushEdge_popEdge]
  rfl

end Interleaving

/-- Settles O54: after both loads each store step is its side of the edge, and the two sides commute. -/
theorem cycleEqualsSoftwareInterleaving : Obligations.CycleEqualsSoftwareInterleaving := by
  intro s data stores ready clean order
  have result : (Software.idle s).run ([.producerLoad, .consumerLoad] ++ stores) = Software.cycleResult s data := by
    rw [Software.run_loads]
    obtain rfl | rfl := order
    · exact Software.run_producerStore_consumerStore ready data
    · exact Software.run_consumerStore_producerStore s data
  refine ⟨s.dataEdge true true data, s.dataRecord true true data, ?_, s.dataEdge_trace true true data, ?_⟩
  · exact dataCycle_of_clean s true true data ready.1 fun _ => (Bus.clean_iff _ _).mpr clean
  · rw [result]
    refine ⟨rfl, rfl, rfl, rfl, ?_⟩
    cases ok : s.popOk true <;> simp [Software.cycleResult, State.dataRecord, State.dataOutput, ok]

end Sys2Proof.Machine

/-! # Proofs: encoding (30_encoding.md) -/

/-! ## The command vector and the cycle word as numbers (R72, R73) -/

namespace Sys2Proof

/-- `cmd = {rst, push_req, pop_req}` (R72). -/
def cmdVector (rst pushReq popReq : Bool) : Nat := rst.toNat * 4 + pushReq.toNat * 2 + popReq.toNat

/-- `CW = {cmd, push_data}` (R73), for `push_data` below `2 ^ W`. -/
def cycleWord (W : Nat) (rst pushReq popReq : Bool) (v : Nat) : Nat := cmdVector rst pushReq popReq * 2 ^ W + v

/-- The number the wires carry is the cycle word of their bits and their element. -/
theorem CycleInput.word?_clean (W : Nat) (rst pushReq popReq : Bool) (data : Bus) :
    (CycleInput.clean rst pushReq popReq data).word? W =
      if data.unclean % 2 ^ W = 0 then some (cycleWord W rst pushReq popReq (data.value % 2 ^ W)) else none := by
  cases rst <;> cases pushReq <;> cases popReq <;> rfl

theorem CycleInput.ofWord_eq_clean (W cw : Nat) :
    CycleInput.ofWord W cw =
      .clean ((cw / 2 ^ W).testBit 2) ((cw / 2 ^ W).testBit 1) ((cw / 2 ^ W).testBit 0) (Bus.ofNat (cw % 2 ^ W)) := by
  simp only [CycleInput.ofWord, CycleInput.clean, Nat.testBit_div_two_pow, Nat.add_comm _ W, Nat.add_zero]

theorem testBit_cmdVector (rst pushReq popReq : Bool) :
    (cmdVector rst pushReq popReq).testBit 2 = rst ∧ (cmdVector rst pushReq popReq).testBit 1 = pushReq ∧
      (cmdVector rst pushReq popReq).testBit 0 = popReq := by
  revert rst pushReq popReq; decide

theorem cmdVector_lt (rst pushReq popReq : Bool) : cmdVector rst pushReq popReq < 8 := by
  revert rst pushReq popReq; decide

/-- No `cmd` value is left out (R78). -/
theorem cmdVector_testBit : ∀ cmd < 8, cmdVector (cmd.testBit 2) (cmd.testBit 1) (cmd.testBit 0) = cmd := by
  decide

section CycleWord

variable {W v : Nat} (rst pushReq popReq : Bool)

theorem cycleWord_lt (hv : v < 2 ^ W) : cycleWord W rst pushReq popReq v < 2 ^ (W + 3) := by
  have := cmdVector_lt rst pushReq popReq
  calc cycleWord W rst pushReq popReq v
    _ < (cmdVector rst pushReq popReq + 1) * 2 ^ W := by rw [cycleWord, Nat.add_one_mul]; omega
    _ ≤ 8 * 2 ^ W := Nat.mul_le_mul_right _ (by omega)
    _ = 2 ^ (W + 3) := by rw [Nat.pow_add, Nat.mul_comm]

theorem cycleWord_div (hv : v < 2 ^ W) :
    cycleWord W rst pushReq popReq v / 2 ^ W = cmdVector rst pushReq popReq := by
  rw [cycleWord, Nat.mul_comm, Nat.mul_add_div (Nat.two_pow_pos W), Nat.div_eq_of_lt hv, Nat.add_zero]

theorem cycleWord_mod (hv : v < 2 ^ W) : cycleWord W rst pushReq popReq v % 2 ^ W = v := by
  rw [cycleWord, Nat.mul_comm, Nat.mul_add_mod, Nat.mod_eq_of_lt hv]

theorem cycleWord_sub_mod (hv : v < 2 ^ W) :
    cycleWord W rst pushReq popReq v - cycleWord W rst pushReq popReq v % 2 ^ W =
      cycleWord W rst pushReq popReq 0 := by
  rw [cycleWord_mod _ _ _ hv, cycleWord, cycleWord, Nat.add_sub_cancel, Nat.add_zero]

theorem cycleWord_testBit_pushReq (hv : v < 2 ^ W) :
    (cycleWord W rst pushReq popReq v).testBit (W + 1) = pushReq := by
  rw [Nat.add_comm, ← Nat.testBit_div_two_pow, cycleWord_div _ _ _ hv]
  exact (testBit_cmdVector rst pushReq popReq).2.1

theorem CycleInput.ofWord_cycleWord (hv : v < 2 ^ W) :
    CycleInput.ofWord W (cycleWord W rst pushReq popReq v) = .clean rst pushReq popReq (Bus.ofNat v) := by
  obtain ⟨hrst, hpush, hpop⟩ := testBit_cmdVector rst pushReq popReq
  rw [CycleInput.ofWord_eq_clean, cycleWord_div _ _ _ hv, cycleWord_mod _ _ _ hv, hrst, hpush, hpop]

theorem decodeWord_cycleWord (hv : v < 2 ^ W) :
    decodeWord W (cycleWord W rst pushReq popReq v) = .ok (decodeCmd rst pushReq popReq (Bus.ofNat v)) := by
  rw [decodeWord, if_pos (cycleWord_lt _ _ _ hv), CycleInput.ofWord_cycleWord _ _ _ hv, decodeInput_clean]

end CycleWord

/-- Every `(W + 3)`-bit number is a cycle word (R73). -/
theorem exists_eq_cycleWord {W cw : Nat} (hcw : cw < 2 ^ (W + 3)) :
    ∃ rst pushReq popReq, ∃ v < 2 ^ W, cw = cycleWord W rst pushReq popReq v := by
  have cmd_lt : cw / 2 ^ W < 8 := Nat.div_lt_of_lt_mul (Nat.pow_add 2 W 3 ▸ hcw)
  refine ⟨(cw / 2 ^ W).testBit 2, (cw / 2 ^ W).testBit 1, (cw / 2 ^ W).testBit 0, cw % 2 ^ W,
    Nat.mod_lt _ (Nat.two_pow_pos W), ?_⟩
  rw [cycleWord, cmdVector_testBit _ cmd_lt, Nat.mul_comm, Nat.div_add_mod]

/-! ## Commands and their cycle words (R77, R81) -/

theorem Bus.ofNat_wf {W v : Nat} (hv : v < 2 ^ W) : (Bus.ofNat v).wf W = true := by
  simp [Bus.wf, Bus.ofNat, hv]

/-- Clean wires that fit the port carry a number and nothing else. -/
theorem Bus.exists_eq_ofNat {W : Nat} {b : Bus} (wf : b.wf W = true) (clean : b.unclean % 2 ^ W = 0) :
    ∃ v < 2 ^ W, b = Bus.ofNat v := by
  obtain ⟨value, unclean⟩ := b
  simp only [Bus.wf, Bool.and_eq_true, decide_eq_true_eq] at wf
  obtain ⟨⟨value_lt, unclean_lt⟩, -⟩ := wf
  obtain rfl : unclean = 0 := Nat.mod_eq_of_lt unclean_lt ▸ clean
  exact ⟨value, value_lt, rfl⟩

theorem decodeCmd_wf_iff {W : Nat} {rst pushReq popReq : Bool} {data : Bus} :
    (decodeCmd rst pushReq popReq data).wf W = true ↔ (pushReq = true → data.wf W = true) := by
  cases rst <;> cases pushReq <;> cases popReq <;> simp [decodeCmd, Instr.wf, Dropped.wf]

/-- The encoder drives the wires of `cmd`, and 0 as ignored `push_data` (R81). -/
theorem encodeEvent_decodeCmd (rst pushReq popReq : Bool) (data : Bus) :
    encodeEvent (decodeCmd rst pushReq popReq data) =
      .cycle (.clean rst pushReq popReq (if pushReq then data else Bus.ofNat 0)) := by
  cases rst <;> cases pushReq <;> cases popReq <;> rfl

theorem encodeWord_decodeCmd (W : Nat) (rst pushReq popReq : Bool) (data : Bus) :
    encodeWord W (decodeCmd rst pushReq popReq data) =
      (CycleInput.clean rst pushReq popReq (if pushReq then data else Bus.ofNat 0)).word? W := by
  simp only [encodeWord, encodeEvent_decodeCmd]

theorem encodeWord_decodeCmd_ofNat {W v : Nat} (hv : v < 2 ^ W) (rst pushReq popReq : Bool) :
    encodeWord W (decodeCmd rst pushReq popReq (Bus.ofNat v)) =
      some (cycleWord W rst pushReq popReq (if pushReq then v else 0)) := by
  rw [encodeWord_decodeCmd, CycleInput.word?_clean]
  cases pushReq <;> simp [Bus.ofNat, Nat.mod_eq_of_lt hv]

/-- An instruction with a cycle word is a command of R77; where it takes no `push_data`, 0 serves as well as any. -/
theorem exists_eq_decodeCmd {W cw : Nat} {i : Instr} (h : encodeWord W i = some cw) :
    ∃ rst pushReq popReq data, (pushReq = false → data = Bus.ofNat 0) ∧ i = decodeCmd rst pushReq popReq data := by
  cases i with
  | nop => exact ⟨false, false, false, _, fun _ => rfl, rfl⟩
  | pop => exact ⟨false, false, true, _, fun _ => rfl, rfl⟩
  | push data => exact ⟨false, true, false, data, nofun, rfl⟩
  | pushPop data => exact ⟨false, true, true, data, nofun, rfl⟩
  | reset dropped =>
    cases dropped with
    | none => exact ⟨true, false, false, _, fun _ => rfl, rfl⟩
    | pop => exact ⟨true, false, true, _, fun _ => rfl, rfl⟩
    | push data => exact ⟨true, true, false, data, nofun, rfl⟩
    | pushPop data => exact ⟨true, true, true, data, nofun, rfl⟩
  | empty => cases h
  | full => cases h
  | capacity => cases h
  | construct C W' => cases h

/-- If it is well-formed besides, its data is a number that fits the port: the wires are clean. -/
theorem exists_eq_decodeCmd_ofNat {W cw : Nat} {i : Instr} (wf : i.wf W = true) (h : encodeWord W i = some cw) :
    ∃ rst pushReq popReq, ∃ v < 2 ^ W, (pushReq = false → v = 0) ∧
      i = decodeCmd rst pushReq popReq (Bus.ofNat v) := by
  obtain ⟨rst, pushReq, popReq, data, ignored, rfl⟩ := exists_eq_decodeCmd h
  cases pushReq with
  | false => exact ⟨rst, false, popReq, 0, Nat.two_pow_pos W, fun _ => rfl, by rw [ignored rfl]⟩
  | true =>
    have clean : data.unclean % 2 ^ W = 0 := by
      by_contra unclean
      simp [encodeWord_decodeCmd, CycleInput.word?_clean, unclean] at h
    obtain ⟨v, hv, rfl⟩ := Bus.exists_eq_ofNat (decodeCmd_wf_iff.mp wf rfl) clean
    exact ⟨rst, true, popReq, v, hv, nofun, rfl⟩

end Sys2Proof

namespace Sys2Proof.Machine

/-- Settles O2: the command is that of a command vector and clean data, whose cycle word decodes to it. -/
theorem cycleWordRoundTrip : Obligations.CycleWordRoundTrip := by
  intro W cw i wf h
  obtain ⟨rst, pushReq, popReq, v, hv, ignored, rfl⟩ := exists_eq_decodeCmd_ofNat wf h
  have data_eq : (if pushReq then v else 0) = v := by
    cases pushReq with
    | false => exact (ignored rfl).symm
    | true => rfl
  rw [encodeWord_decodeCmd_ofNat hv, data_eq, Option.some_inj] at h
  subst h
  exact ⟨cycleWord_lt _ _ _ hv, decodeWord_cycleWord _ _ _ hv⟩

/-- Settles O4: the number is the cycle word of its bits, and re-encoding keeps `push_data` where a push takes it. -/
theorem everyCycleWordDecodes : Obligations.EveryCycleWordDecodes := by
  intro W cw hcw
  obtain ⟨rst, pushReq, popReq, v, hv, rfl⟩ := exists_eq_cycleWord hcw
  refine ⟨_, decodeWord_cycleWord _ _ _ hv, decodeCmd_wf_iff.mpr fun _ => Bus.ofNat_wf hv, ?_⟩
  rw [encodeWord_decodeCmd_ofNat hv, cycleWord_testBit_pushReq _ _ _ hv, cycleWord_sub_mod _ _ _ hv]
  cases pushReq <;> rfl

/-- Settles O3, form by form from the cycle word of a command vector. -/
theorem everyCommandHasCycleWord : Obligations.EveryCommandHasCycleWord := by
  intro W v hv
  have word (rst pushReq popReq : Bool) := encodeWord_decodeCmd_ofNat hv rst pushReq popReq
  refine ⟨(word false false false).trans ?_, (word false false true).trans ?_, word false true false,
    word false true true, word true false false, word true false true, word true true false, word true true true⟩
  · simp [cycleWord, cmdVector]
  · simp [cycleWord, cmdVector]

/-- Settles O1: each word is the cycle word of a command vector and its data. -/
theorem specCycleWordsDecode : Obligations.SpecCycleWordsDecode := by
  have ten_lt : 10 < 2 ^ 8 := by decide
  have thirty_lt : 30 < 2 ^ 8 := by decide
  have seven_lt : 7 < 2 ^ 8 := by decide
  have zero_lt : 0 < 2 ^ 8 := by decide
  exact ⟨decodeWord_cycleWord false false false zero_lt, decodeWord_cycleWord false false true zero_lt,
    decodeWord_cycleWord false true false ten_lt, decodeWord_cycleWord false true true thirty_lt,
    decodeWord_cycleWord true false false zero_lt, decodeWord_cycleWord true false true zero_lt,
    decodeWord_cycleWord true true false seven_lt, decodeWord_cycleWord true true true seven_lt⟩

end Sys2Proof.Machine

/-! ## Unclean and ignored inputs (R75, R80) -/

namespace Sys2Proof

theorem decodeInput_of_unclean {inp : CycleInput}
    (h : inp.rst.bit? = none ∨ inp.pushReq.bit? = none ∨ inp.popReq.bit? = none) :
    decodeInput inp = .error .inputUnknown := by
  unfold decodeInput
  split
  · next hrst hpush hpop => simp [hrst, hpush, hpop] at h
  · rfl

theorem Bus.clean_eq_false_of_testBit {W b : Nat} {data : Bus} (hb : b < W) (unclean : data.unclean.testBit b = true) :
    data.clean W = false := by
  have bit : (data.unclean % 2 ^ W).testBit b = true := by simp [Nat.testBit_mod_two_pow, hb, unclean]
  by_contra clean
  rw [(data.clean_iff W).mp (by simpa using clean), Nat.zero_testBit] at bit
  cases bit

end Sys2Proof

namespace Sys2Proof.Machine

theorem step_of_decodeEvent_eq_error {s : State} {e : Event} {rest : List Event} {r : DecodeError}
    (hs : s.events = e :: rest) (he : decodeEvent e = .error r) : step s = .refused .inputUnknown := by
  simp only [step, hs, he]

theorem step_cycle_clean (s : State) (rst pushReq popReq : Bool) (data : Bus) (rest : List Event) :
    step (s.withEvents (.cycle (.clean rst pushReq popReq data) :: rest)) =
      exec (decodeCmd rst pushReq popReq data) (s.withEvents rest) :=
  step_of_decodeEvent_eq_ok rfl (decodeInput_clean ..)

/-- With `rst = 1` the requests and the data are dropped, whatever they are (R75, 60_exceptions.md R134). -/
theorem exec_decodeCmd_reset (pushReq popReq : Bool) (data : Bus) (s : State) :
    exec (decodeCmd true pushReq popReq data) s = .next (s.resetEdge pushReq popReq) := by
  cases pushReq <;> cases popReq <;> rfl

section Rejected

variable {s : State} {pushReq : Bool}

theorem State.pushOk_eq_false (h : pushReq = false ∨ (s.tail + 1) % s.params.C = s.head) :
    s.pushOk pushReq = false := by
  by_contra ok
  obtain ⟨req, room⟩ := (s.pushOk_iff pushReq).mp (by simpa using ok)
  obtain noReq | full := h
  · simp [req] at noReq
  · exact room full

variable (rejected : s.pushOk pushReq = false) (popReq : Bool)

include rejected

/-- Without an accepted push no data wire needs to be clean (R80). -/
theorem dataCycle_of_rejected (constructed : s.constructed = true) (data : Bus) :
    dataCycle pushReq popReq data s = .next (s.dataEdge pushReq popReq data) :=
  dataCycle_of_clean s pushReq popReq data constructed fun ok => by simp [rejected] at ok

theorem dataCycle_eq_of_rejected (data data' : Bus) :
    dataCycle pushReq popReq data s = dataCycle pushReq popReq data' s := by
  have edge : s.dataEdge pushReq popReq data = s.dataEdge pushReq popReq data' := by
    simp [State.dataEdge, State.pushEdge, State.dataRecord, rejected]
  simp [dataCycle, rejected, edge]

end Rejected

/-- Settles O5: the decoder refuses unclean requests, the data cycle unclean data of an accepted push alone. -/
theorem uncleanInputsRefused : Obligations.UncleanInputsRefused := by
  refine ⟨fun s inp rest hs unclean => ?_, fun s popReq data constructed room ⟨b, hb, unclean⟩ => ?_,
    fun s popReq data constructed full => ?_, fun s popReq data constructed => ?_, fun s pushReq popReq data => ?_⟩
  · exact step_of_decodeEvent_eq_error hs (decodeInput_of_unclean unclean)
  · rw [exec_decodeCmd_data]
    exact dataCycle_of_unclean s true popReq data constructed ((s.pushOk_iff true).mpr ⟨rfl, room⟩)
      (Bus.clean_eq_false_of_testBit hb unclean)
  · exact ⟨_, (exec_decodeCmd_data true popReq data s).trans
      (dataCycle_of_rejected (State.pushOk_eq_false (.inr full)) popReq constructed data)⟩
  · exact ⟨_, (exec_decodeCmd_data false popReq data s).trans
      (dataCycle_of_rejected (State.pushOk_eq_false (.inl rfl)) popReq constructed data)⟩
  · exact ⟨_, exec_decodeCmd_reset pushReq popReq data s⟩

/-- Settles O6: a RESET drops the data, and a data cycle that takes no push reads none. -/
theorem ignoredPushDataHasNoEffect : Obligations.IgnoredPushDataHasNoEffect := by
  intro s rst pushReq popReq data data' rest ignored
  rw [step_cycle_clean, step_cycle_clean]
  cases rst with
  | true => rw [exec_decodeCmd_reset, exec_decodeCmd_reset]
  | false =>
    have rejected : (s.withEvents rest).pushOk pushReq = false := State.pushOk_eq_false (by simpa using ignored)
    rw [exec_decodeCmd_data, exec_decodeCmd_data]
    exact dataCycle_eq_of_rejected rejected popReq data data'

/-! ## The assembly of `capacity` (R76) -/

/-- Settles O28: `C - 1` with `C = 2 ^ k` always fits `PTR_W` bits. -/
theorem capacityAssembly : Obligations.CapacityAssembly := by
  intro s
  have port : s.capacityPort = 2 ^ s.params.k - 1 := by rw [s.capacityPort_eq, s.params.C_eq_two_pow]
  refine ⟨rfl, fun hk => ⟨max_eq_left hk, s.capacityPort_eq, port⟩, fun hk => ⟨?_, ?_⟩⟩
  · rw [Params.ptrW, hk]; rfl
  · rw [port, hk]; rfl

end Sys2Proof.Machine

/-! ## Reading the words of a line (R81) -/

namespace Sys2Proof.Machine

/-- A letter that the reader takes into a word as it stands: no blank, no comment, no upper case. -/
def isPlain (c : Char) : Bool := c != ';' && !isBlank c && !c.isUpper

theorem lineWords_cons_of_isPlain {c : Char} (h : isPlain c = true) (word cs : List Char) :
    lineWords word (c :: cs) = lineWords (c :: word) cs := by
  simp only [isPlain, Bool.and_eq_true, bne_iff_ne, Bool.not_eq_true'] at h
  obtain ⟨⟨semicolon, blank⟩, upper⟩ := h
  simp [lineWords, semicolon, blank, Char.toLower_eq_of_not_isUpper, upper]

theorem lineWords_append_of_isPlain {w : List Char} (h : ∀ c ∈ w, isPlain c = true) (word cs : List Char) :
    lineWords word (w ++ cs) = lineWords (w.reverse ++ word) cs := by
  induction w generalizing word with
  | nil => rfl
  | cons c w ih =>
    obtain ⟨hc, hw⟩ := List.forall_mem_cons.mp h
    rw [List.cons_append, lineWords_cons_of_isPlain hc, ih hw, List.reverse_cons, List.append_assoc]
    rfl

/-- Two plain words with a space between them are read as those two words. -/
theorem lineWords_two {m v : List Char} (hm : ∀ c ∈ m, isPlain c = true) (hv : ∀ c ∈ v, isPlain c = true)
    (hm_ne : m ≠ []) (hv_ne : v ≠ []) : lineWords [] (m ++ ' ' :: v) = [m, v] := by
  have second : lineWords [] v = [v] := by
    have read := lineWords_append_of_isPlain hv [] []
    rw [List.append_nil, List.append_nil] at read
    simp [read, lineWords, hv_ne]
  rw [lineWords_append_of_isPlain hm, List.append_nil, lineWords]
  simp [isBlank, hm_ne, second]

/-! ## Reading decimal numbers (R81) -/

theorem isPlain_of_isDigit {c : Char} (h : c.isDigit = true) : isPlain c = true := by
  have other {d : Char} (hd : d.isDigit = false) : c ≠ d := by
    rintro rfl
    simp [h] at hd
  have upper : c.isUpper = false := by
    have le_nine : c.toNat ≤ 57 := (Char.isDigit_iff_toNat.mp h).2
    simp only [Char.isUpper, ge_iff_le, UInt32.le_iff_toNat_le, decide_eq_false_iff_not]
    exact fun ⟨a_le, _⟩ => absurd (a_le.trans le_nine) (by decide)
  simp [isPlain, isBlank, upper, other (d := ';') rfl, other (d := ' ') rfl, other (d := '\t') rfl,
    other (d := '\r') rfl]

theorem digit?_of_isDigit {c : Char} (h : c.isDigit = true) : digit? 10 c = some (c.toNat - '0'.toNat) := by
  obtain ⟨zero_le, le_nine⟩ := Char.isDigit_iff_toNat.mp h
  have nine : '9'.toNat = '0'.toNat + 9 := rfl
  have lower : c.toNat < 'a'.toNat := lt_of_le_of_lt le_nine (by decide)
  simp only [digit?, h, lower, Bool.true_or, if_true]
  rw [if_pos (by omega)]

theorem digits?_of_isDigit {ds : List Char} (h : ∀ c ∈ ds, c.isDigit = true) (acc : Nat) :
    digits? 10 acc ds = some (Nat.ofDigitChars 10 ds acc) := by
  induction ds generalizing acc with
  | nil => rfl
  | cons c ds ih =>
    obtain ⟨hc, hds⟩ := List.forall_mem_cons.mp h
    simp only [digits?, digit?_of_isDigit hc, ih hds, Nat.ofDigitChars_cons, Nat.mul_comm]

theorem number?_of_isDigit {ds : List Char} (hne : ds ≠ []) (h : ∀ c ∈ ds, c.isDigit = true) :
    number? ds = some (Nat.ofDigitChars 10 ds 0) := by
  unfold number?
  split
  · exact absurd rfl hne
  · simp at h
  · simp at h
  · exact digits?_of_isDigit h 0

theorem isDigit_of_mem_toDigits_ten (n : Nat) : ∀ c ∈ Nat.toDigits 10 n, c.isDigit = true := fun _ =>
  Nat.isDigit_of_mem_toDigits (by decide) (by decide)

/-- The decimal digits of a number that fits the port read as that number on clean wires. -/
theorem value?_toDigits {W v : Nat} (hv : v < 2 ^ W) : value? W (Nat.toDigits 10 v) = some (Bus.ofNat v) := by
  simp [value?, number?_of_isDigit Nat.toDigits_ne_nil (isDigit_of_mem_toDigits_ten v), hv]

/-! ## Spellings (R81) -/

/-- A mnemonic, a space and a value in decimal are read as the mnemonic's command with that value. -/
theorem parseLine_mnemonic_value {W v : Nat} (hv : v < 2 ^ W) {text : String} {m : List Char} {command : Bus → Instr}
    (htext : text.toList = m ++ [' ']) (plain : m.all isPlain = true) (hne : m ≠ [])
    (meaning : ∀ ds, valueLine? W m ds = (value? W ds).map fun data => .command (command data)) :
    parseLine W (text ++ toString v).toList = some (.command (command (Bus.ofNat v))) := by
  have chars : (text ++ toString v).toList = m ++ ' ' :: Nat.toDigits 10 v := by simp [htext]
  have digits_plain : ∀ c ∈ Nat.toDigits 10 v, isPlain c = true := fun c hc =>
    isPlain_of_isDigit (isDigit_of_mem_toDigits_ten v c hc)
  have words := lineWords_two (List.all_eq_true.mp plain) digits_plain hne Nat.toDigits_ne_nil
  simp only [parseLine, chars, words, meaning, value?_toDigits hv, Option.map_some]

theorem parseLine_spelling {W v : Nat} (hv : v < 2 ^ W) (rst pushReq popReq : Bool) {text : String}
    (h : Instr.spelling (decodeCmd rst pushReq popReq (Bus.ofNat v)) = some text) :
    parseLine W text.toList = some (.command (decodeCmd rst pushReq popReq (Bus.ofNat v))) := by
  match rst, pushReq, popReq, h with
  | false, false, false, rfl => rfl
  | false, false, true, rfl => rfl
  | false, true, false, rfl =>
    exact parseLine_mnemonic_value hv (m := "push".toList) rfl (by decide) (by decide) fun _ => rfl
  | false, true, true, rfl =>
    exact parseLine_mnemonic_value hv (m := "pushpop".toList) rfl (by decide) (by decide) fun _ => rfl
  | true, false, false, rfl => rfl
  | true, false, true, rfl => rfl
  | true, true, false, rfl =>
    exact parseLine_mnemonic_value hv (m := "reset.push".toList) rfl (by decide) (by decide) fun _ => rfl
  | true, true, true, rfl =>
    exact parseLine_mnemonic_value hv (m := "reset.pushpop".toList) rfl (by decide) (by decide) fun _ => rfl

/-- Settles O56: a clean well-formed command is that of a command vector and a number, and is read from its words. -/
theorem spellingsReadBack : Obligations.SpellingsReadBack := by
  refine ⟨fun W i text wf hasWord h => ?_, fun _ _ => rfl⟩
  obtain ⟨cw, word⟩ := Option.isSome_iff_exists.mp hasWord
  obtain ⟨rst, pushReq, popReq, v, hv, -, rfl⟩ := exists_eq_decodeCmd_ofNat wf word
  exact parseLine_spelling hv rst pushReq popReq h

end Sys2Proof.Machine

/-! # Proofs: construction and reset (40_construct_reset.md) -/

/-! ## CONSTRUCT (R90, R91) -/

namespace Sys2Proof

/-- The tests of R90 in its own words: they leave the powers of two within the bound, and no other size. -/
theorem Config.legal_iff_two_pow {C W m : Nat} :
    Config.legal C W m = true ↔ (∃ k, C = 2 ^ k ∧ k ≤ m) ∧ 1 ≤ W := by
  rw [Config.legal_iff]
  constructor
  · rintro ⟨pos, test, width, bound⟩
    obtain ⟨k, rfl⟩ := (Nat.and_sub_one_eq_zero_iff_isPowerOfTwo pos.ne').mp test
    exact ⟨⟨k, rfl, by rwa [Nat.log2_two_pow] at bound⟩, width⟩
  · rintro ⟨⟨k, rfl, bound⟩, width⟩
    have pos : 0 < 2 ^ k := Nat.two_pow_pos k
    exact ⟨pos, (Nat.and_sub_one_eq_zero_iff_isPowerOfTwo pos.ne').mpr ⟨k, rfl⟩, width, by rwa [Nat.log2_two_pow]⟩

end Sys2Proof

namespace Sys2Proof.Machine

theorem exec_construct_of_legal {s : State} {C W : Nat} (legal : Config.legal C W s.params.maxLog2C = true) :
    exec (.construct C W) s =
      .next (State.powerUp { C := C, W := W, maxLog2C := s.params.maxLog2C, legal := legal } s.events s.draws) :=
  dif_pos legal

theorem exec_construct_of_not_legal {s : State} {C W : Nat} (illegal : ¬ Config.legal C W s.params.maxLog2C = true) :
    exec (.construct C W) s = .fault (.configInvalid C W s.params.maxLog2C) :=
  dif_neg illegal

/-- Settles O22: the model's bit test is R90's condition, and the block has the parameters that passed it. -/
theorem constructFaultsExactlyWhenInvalid : Obligations.ConstructFaultsExactlyWhenInvalid := fun _ _ _ =>
  ⟨fun valid => ⟨_, exec_construct_of_legal (Config.legal_iff_two_pow.mpr valid), rfl, rfl, rfl, rfl⟩,
    fun invalid => exec_construct_of_not_legal (mt Config.legal_iff_two_pow.mp invalid)⟩

/-! ## A reset cycle and the flags after it (R93, R94) -/

section ResetCycle

variable (s : State) (pushReq popReq : Bool)

theorem State.resetEdge_emptyPort : (s.resetEdge pushReq popReq).emptyPort = true :=
  ((s.resetEdge pushReq popReq).emptyPort_of_constructed rfl).trans (decide_eq_true rfl)

theorem State.resetEdge_fullPort_iff : (s.resetEdge pushReq popReq).fullPort = true ↔ s.params.C = 1 := by
  rw [State.fullPort_of_constructed _ rfl, decide_eq_true_iff]
  exact Nat.one_mod_eq_zero_iff

/-- Of a constructed block a RESET cycle shows the status before the reset edge (R94). -/
theorem State.resetRecord_showsStatus (h : s.constructed = true) : s.ShowsStatus (s.resetRecord pushReq popReq) where
  empty := s.emptyPort_of_constructed h
  full := s.fullPort_of_constructed h
  capacity := s.capacityPort_eq

end ResetCycle

/-- Settles O18, from the fields after a reset edge: with both indices 0 the block is full only if slot 1 is slot 0. -/
theorem resetClearsIndices : Obligations.ResetClearsIndices := fun s dropped =>
  ⟨_, _, exec_reset dropped s, s.resetEdge_oneCycle _ _, rfl, rfl, rfl, fun _ => rfl, s.resetEdge_queue _ _,
    s.resetEdge_emptyPort _ _, s.resetEdge_fullPort_iff _ _⟩

/-- Settles O19: the record of a reset edge answers no request and shows the status before the edge. -/
theorem resetCycleOutputs : Obligations.ResetCycleOutputs := by
  intro s dropped
  refine ⟨_, _, exec_reset dropped s, s.resetEdge_trace _ _, rfl, rfl, s.freePopData_lt, fun constructed => ?_,
    s.capacityPort_eq⟩
  have status := s.resetRecord_showsStatus dropped.pushReq dropped.popReq constructed
  exact ⟨status.empty, status.full⟩

/-! ## Before the first reset edge (R96) -/

/-- Settles O21: a data cycle needs a constructed block, a reset cycle does not. -/
theorem cyclesBeforeFirstReset : Obligations.CyclesBeforeFirstReset := by
  intro s pushReq popReq data rest unbuilt
  rw [step_cycle_clean, step_cycle_clean, exec_decodeCmd_data, exec_decodeCmd_reset]
  exact ⟨dataCycle_of_not_constructed (s.withEvents rest) pushReq popReq data unbuilt,
    _, _, rfl, State.resetEdge_trace _ _ _, rfl, rfl, rfl, rfl, rfl, rfl, s.capacityPort_eq, s.freePopData_lt⟩

end Sys2Proof.Machine

/-! ## A block of one slot (R92) -/

namespace Sys2Proof

theorem Params.derived_of_C_eq_one {p : Params} (one : p.C = 1) :
    p.k = 0 ∧ p.ptrW = 1 ∧ p.mask = 0 ∧ p.usable = 0 := by
  have k_zero : p.k = 0 := congrArg Nat.log2 one
  exact ⟨k_zero, by rw [Params.ptrW, k_zero]; rfl, by rw [Params.mask, one], by rw [Params.usable, one]⟩

end Sys2Proof

namespace Sys2Proof.Machine

theorem State.popOk_eq_false {s : State} {popReq : Bool} (h : popReq = false ∨ s.head = s.tail) :
    s.popOk popReq = false := by
  by_contra ok
  obtain ⟨req, nonempty⟩ := (s.popOk_iff popReq).mp (by simpa using ok)
  obtain noReq | empty := h
  · simp [req] at noReq
  · exact nonempty empty

section SizeOne

variable {s : State} (ready : s.Ready) (one : s.params.C = 1)

include ready one

/-- The only legal index is 0. -/
theorem State.indices_eq_zero_of_C_eq_one : s.head = 0 ∧ s.tail = 0 := by
  obtain ⟨-, hhead, htail⟩ := ready
  omega

/-- The one slot is `head`, `tail` and the slot after `tail`: no request is accepted. -/
theorem State.rejects_of_C_eq_one (pushReq popReq : Bool) :
    s.pushOk pushReq = false ∧ s.popOk popReq = false := by
  obtain ⟨head_zero, tail_zero⟩ := State.indices_eq_zero_of_C_eq_one ready one
  exact ⟨State.pushOk_eq_false (.inr (by rw [one, Nat.mod_one, head_zero])),
    State.popOk_eq_false (.inr (by rw [head_zero, tail_zero]))⟩

theorem State.ShowsStatus.of_C_eq_one {r : CycleRecord} (status : s.ShowsStatus r) :
    r.out.empty = true ∧ r.out.full = true ∧ r.out.capacity = 0 := by
  obtain ⟨head_zero, tail_zero⟩ := State.indices_eq_zero_of_C_eq_one ready one
  simp [status.empty, status.full, status.capacity, head_zero, tail_zero, one]

end SizeOne

theorem State.pushResult_dataRecord_of_rejected {s : State} {pushReq : Bool} (rejected : s.pushOk pushReq = false)
    (popReq : Bool) (data : Bus) : (s.dataRecord pushReq popReq data).pushResult = if pushReq then 2 else 0 := by
  simp [CycleRecord.pushResult, State.dataRecord, State.dataOutput, resultCode, rejected]

theorem State.popResult_dataRecord_of_rejected {s : State} {popReq : Bool} (rejected : s.popOk popReq = false)
    (pushReq : Bool) (data : Bus) : (s.dataRecord pushReq popReq data).popResult = if popReq then 2 else 0 := by
  simp [CycleRecord.popResult, State.dataRecord, State.dataOutput, resultCode, rejected]

/-- Settles O39: a data cycle rejects every request and moves nothing, a RESET sets the indices to the 0 they hold. -/
theorem degenerateSizeOne : Obligations.DegenerateSizeOne := by
  intro s rst pushReq popReq data ready one
  obtain ⟨k_zero, ptrW_one, mask_zero, usable_zero⟩ := Params.derived_of_C_eq_one one
  obtain ⟨head_zero, tail_zero⟩ := State.indices_eq_zero_of_C_eq_one ready one
  refine ⟨k_zero, ptrW_one, mask_zero, usable_zero, head_zero, tail_zero, ?_⟩
  cases rst with
  | true =>
    obtain ⟨empty, full, capacity⟩ :=
      State.ShowsStatus.of_C_eq_one ready one (s.resetRecord_showsStatus pushReq popReq ready.1)
    exact ⟨_, _, exec_decodeCmd_reset pushReq popReq data s, s.resetEdge_oneCycle _ _, rfl, rfl, empty, full, capacity,
      nofun, rfl, rfl, rfl⟩
  | false =>
    obtain ⟨push, pop⟩ := State.rejects_of_C_eq_one ready one pushReq popReq
    obtain ⟨empty, full, capacity⟩ :=
      State.ShowsStatus.of_C_eq_one ready one (State.dataRecord_showsStatus ready.1 pushReq popReq data)
    refine ⟨s.dataEdge pushReq popReq data, s.dataRecord pushReq popReq data, ?_,
      State.dataEdge_oneCycle ready.1 pushReq popReq data, push, pop, empty, full, capacity,
      fun _ => ⟨State.pushResult_dataRecord_of_rejected push popReq data,
        State.popResult_dataRecord_of_rejected pop pushReq data⟩,
      ?_, ?_, ?_⟩
    · rw [exec_decodeCmd_data]
      exact dataCycle_of_rejected push popReq ready.1 data
    · simpa [pop] using head_zero
    · simpa [push] using tail_zero
    · simp [push]

end Sys2Proof.Machine

/-! # Proofs: push and pop (41_push_pop.md) -/

namespace Sys2Proof.Machine

/-! ## The index increment (R105) -/

/-- Settles O32, from the two cases of the increment. -/
theorem indexIncrementWraps : Obligations.IndexIncrementWraps := by
  intro p x hx
  have next_cases := p.next_cases hx
  exact ⟨p.next_lt x, by omega, by omega, by omega⟩

/-! ## Each side of a data cycle, accepted or turned away (R102, R103) -/

section Sides

variable {s : State} {pushReq popReq : Bool}

theorem State.dataEdge_of_pushOk (ok : s.pushOk pushReq = true) (popReq : Bool) (data : Bus) :
    (s.dataEdge pushReq popReq data).memRead s.tail = data.element s.params.W ∧
      (∀ j, j ≠ s.tail → (s.dataEdge pushReq popReq data).memRead j = s.memRead j) ∧
      (s.dataEdge pushReq popReq data).tail = (s.tail + 1) % s.params.C := by
  refine ⟨?_, fun j hj => ?_, ?_⟩
  · rw [State.dataEdge_memRead, if_pos ⟨ok, rfl⟩]
  · rw [State.dataEdge_memRead, if_neg fun written => hj written.2]
  · rw [State.dataEdge_tail, if_pos ok, Params.next_eq_mod]

theorem State.dataEdge_of_push_rejected (rejected : s.pushOk pushReq = false) (popReq : Bool) (data : Bus) :
    (s.dataEdge pushReq popReq data).tail = s.tail ∧ (s.dataEdge pushReq popReq data).storage = s.storage ∧
      ∀ j, (s.dataEdge pushReq popReq data).memRead j = s.memRead j := by
  simp [State.dataEdge_memRead, rejected]

theorem State.dataEdge_head_of_popOk (ok : s.popOk popReq = true) (pushReq : Bool) (data : Bus) :
    (s.dataEdge pushReq popReq data).head = (s.head + 1) % s.params.C := by
  rw [State.dataEdge_head, if_pos ok, Params.next_eq_mod]

theorem State.dataEdge_head_of_pop_rejected (rejected : s.popOk popReq = false) (pushReq : Bool) (data : Bus) :
    (s.dataEdge pushReq popReq data).head = s.head := by
  simp [rejected]

/-- A data edge that accepts neither request changes no register and no slot. -/
theorem State.dataEdge_of_both_rejected (pushRejected : s.pushOk pushReq = false) (popRejected : s.popOk popReq = false)
    (data : Bus) :
    (s.dataEdge pushReq popReq data).head = s.head ∧ (s.dataEdge pushReq popReq data).tail = s.tail ∧
      (s.dataEdge pushReq popReq data).storage = s.storage ∧
      ∀ j, (s.dataEdge pushReq popReq data).memRead j = s.memRead j :=
  ⟨State.dataEdge_head_of_pop_rejected popRejected pushReq data,
    State.dataEdge_of_push_rejected pushRejected popReq data⟩

theorem State.dataRecord_pushed_of_pushOk (ok : s.pushOk pushReq = true) (popReq : Bool) (data : Bus) :
    (s.dataRecord pushReq popReq data).pushed = some (data.element s.params.W) := if_pos ok

theorem State.dataRecord_pushed_of_rejected (rejected : s.pushOk pushReq = false) (popReq : Bool) (data : Bus) :
    (s.dataRecord pushReq popReq data).pushed = none := by
  simp [State.dataRecord, rejected]

theorem State.dataRecord_popData_of_popOk (ok : s.popOk popReq = true) (pushReq : Bool) (data : Bus) :
    (s.dataRecord pushReq popReq data).out.popData = s.memRead s.head := if_pos ok

theorem State.pushResult_dataRecord_of_pushOk (ok : s.pushOk true = true) (popReq : Bool) (data : Bus) :
    (s.dataRecord true popReq data).pushResult = 1 := by
  simp [CycleRecord.pushResult, State.dataRecord, State.dataOutput, resultCode, ok]

theorem State.popResult_dataRecord_of_popOk (ok : s.popOk true = true) (pushReq : Bool) (data : Bus) :
    (s.dataRecord pushReq true data).popResult = 1 := by
  simp [CycleRecord.popResult, State.dataRecord, State.dataOutput, resultCode, ok]

/-- A data cycle that completes has the frame, the requests and the status outputs of a cycle, and whatever its edge and
its record have. -/
theorem exists_completed_dataCycle {data : Bus} {holds : State → CycleRecord → Prop}
    (constructed : s.constructed = true)
    (completes : dataCycle pushReq popReq data s = .next (s.dataEdge pushReq popReq data))
    (edge : holds (s.dataEdge pushReq popReq data) (s.dataRecord pushReq popReq data)) :
    ∃ t r, dataCycle pushReq popReq data s = .next t ∧ s.OneCycle t r ∧ r.Requests pushReq popReq ∧
      s.ShowsStatus r ∧ holds t r :=
  ⟨_, _, completes, State.dataEdge_oneCycle constructed .., State.dataRecord_requests constructed ..,
    State.dataRecord_showsStatus constructed .., edge⟩

end Sides

/-! ## The four commands (R101 to R104, R111, R115) -/

/-- Settles O10: no request is made, so none is accepted. -/
theorem nopCompletesAndWritesNothing : Obligations.NopCompletesAndWritesNothing := by
  intro s constructed
  have push : s.pushOk false = false := rfl
  have pop : s.popOk false = false := rfl
  obtain ⟨head, tail, storage, read⟩ := State.dataEdge_of_both_rejected push pop (Bus.ofNat 0)
  exact exists_completed_dataCycle constructed (dataCycle_of_rejected push false constructed _)
    ⟨head, tail, storage, read, push, pop, State.dataRecord_pushed_of_rejected push ..⟩

/-- Settles O11: the push is accepted and no pop is requested. -/
theorem pushStoresElement : Obligations.PushStoresElement := by
  intro s data constructed room clean
  have push : s.pushOk true = true := (s.pushOk_iff true).mpr ⟨rfl, room⟩
  have pop : s.popOk false = false := rfl
  obtain ⟨stored, kept, tail⟩ := State.dataEdge_of_pushOk push false data
  exact exists_completed_dataCycle constructed (dataCycle_next true false data constructed clean)
    ⟨stored, kept, tail, State.dataEdge_head_of_pop_rejected pop .., push, pop,
      State.dataRecord_pushed_of_pushOk push ..⟩

/-- Settles O13: the pop is accepted and no push is requested. -/
theorem popReturnsElement : Obligations.PopReturnsElement := by
  intro s constructed nonempty
  have push : s.pushOk false = false := rfl
  have pop : s.popOk true = true := (s.popOk_iff true).mpr ⟨rfl, nonempty⟩
  obtain ⟨tail, storage, read⟩ := State.dataEdge_of_push_rejected push true (Bus.ofNat 0)
  exact exists_completed_dataCycle constructed (dataCycle_of_rejected push true constructed _)
    ⟨pop, State.dataRecord_popData_of_popOk pop .., State.dataEdge_head_of_popOk pop .., tail, storage, read, push,
      State.dataRecord_pushed_of_rejected push ..⟩

/-- Settles O14: both requests are accepted. -/
theorem pushPopDoesBoth : Obligations.PushPopDoesBoth := by
  intro s data constructed room nonempty clean
  have push : s.pushOk true = true := (s.pushOk_iff true).mpr ⟨rfl, room⟩
  have pop : s.popOk true = true := (s.popOk_iff true).mpr ⟨rfl, nonempty⟩
  obtain ⟨stored, kept, tail⟩ := State.dataEdge_of_pushOk push true data
  exact exists_completed_dataCycle constructed (dataCycle_next true true data constructed clean)
    ⟨stored, kept, tail, State.dataEdge_head_of_popOk pop .., push, State.dataRecord_pushed_of_pushOk push .., pop,
      State.dataRecord_popData_of_popOk pop ..⟩

/-- Settles O15, by which of the two sides is accepted. -/
theorem pushPopDecidesEachSideAlone : Obligations.PushPopDecidesEachSideAlone := by
  refine fun s data constructed => ⟨fun room empty clean => ?_, fun full nonempty => ?_, fun full empty => ?_⟩
  · have push : s.pushOk true = true := (s.pushOk_iff true).mpr ⟨rfl, room⟩
    have pop : s.popOk true = false := State.popOk_eq_false (.inr empty)
    obtain ⟨stored, kept, tail⟩ := State.dataEdge_of_pushOk push true data
    exact exists_completed_dataCycle constructed (dataCycle_next true true data constructed clean)
      ⟨stored, kept, tail, State.dataEdge_head_of_pop_rejected pop .., State.pushResult_dataRecord_of_pushOk push ..,
        State.popResult_dataRecord_of_rejected pop .., State.dataRecord_pushed_of_pushOk push ..⟩
  · have push : s.pushOk true = false := State.pushOk_eq_false (.inr full)
    have pop : s.popOk true = true := (s.popOk_iff true).mpr ⟨rfl, nonempty⟩
    obtain ⟨tail, storage, read⟩ := State.dataEdge_of_push_rejected push true data
    exact exists_completed_dataCycle constructed (dataCycle_of_rejected push true constructed data)
      ⟨State.dataEdge_head_of_popOk pop .., tail, storage, read, State.pushResult_dataRecord_of_rejected push ..,
        State.popResult_dataRecord_of_popOk pop .., State.dataRecord_pushed_of_rejected push ..,
        State.dataRecord_popData_of_popOk pop ..⟩
  · have push : s.pushOk true = false := State.pushOk_eq_false (.inr full)
    have pop : s.popOk true = false := State.popOk_eq_false (.inr empty)
    obtain ⟨head, tail, storage, read⟩ := State.dataEdge_of_both_rejected push pop data
    exact exists_completed_dataCycle constructed (dataCycle_of_rejected push true constructed data)
      ⟨head, tail, storage, read, State.pushResult_dataRecord_of_rejected push ..,
        State.popResult_dataRecord_of_rejected pop .., State.dataRecord_pushed_of_rejected push ..⟩

/-- A POP where `head = tail` is `Empty` and moves nothing. -/
theorem exists_empty_pop {s : State} (constructed : s.constructed = true) (empty : s.head = s.tail) :
    ∃ t r, exec .pop s = .next t ∧ s.OneCycle t r ∧ r.Requests false true ∧ s.ShowsStatus r ∧
      t.head = s.head ∧ t.tail = s.tail ∧ t.storage = s.storage ∧ (∀ j, t.memRead j = s.memRead j) ∧
      r.out.popOk = false ∧ r.popResult = 2 := by
  have push : s.pushOk false = false := rfl
  have pop : s.popOk true = false := State.popOk_eq_false (.inr empty)
  obtain ⟨head, tail, storage, read⟩ := State.dataEdge_of_both_rejected push pop (Bus.ofNat 0)
  exact exists_completed_dataCycle constructed (dataCycle_of_rejected push true constructed _)
    ⟨head, tail, storage, read, pop, State.popResult_dataRecord_of_rejected pop ..⟩

/-- Settles O16: a reset edge leaves `head = tail = 0`. -/
theorem emptyDetection : Obligations.EmptyDetection := by
  refine ⟨fun s => exists_empty_pop, fun s dropped => ⟨_, exec_reset dropped s, ?_⟩⟩
  obtain ⟨u, r, popped, cycle, -, -, head, tail, storage, -, popOk, code⟩ :=
    exists_empty_pop (s := s.resetEdge dropped.pushReq dropped.popReq) rfl rfl
  exact ⟨u, r, popped, cycle, head, tail, storage, popOk, code⟩

/-- Settles O17: a constructed block with clean data runs the data edge, which adds one record. -/
theorem everyDataCommandTakesOneCycle : Obligations.EveryDataCommandTakesOneCycle := by
  intro s pushReq popReq data constructed clean
  refine ⟨_, (exec_decodeCmd_data ..).trans (dataCycle_next pushReq popReq data constructed clean), ?_, ?_⟩
  · simp [State.cycle]
  · rw [State.dataEdge_constructed, constructed]

end Sys2Proof.Machine

/-! ## A data cycle through the queue (R106, R107) -/

namespace Sys2Proof.Machine

theorem State.dataRecord_returned (s : State) (pushReq popReq : Bool) (data : Bus) :
    (s.dataRecord pushReq popReq data).returned = if s.popOk popReq then some (s.memRead s.head) else none := by
  cases ok : s.popOk popReq <;> simp [CycleRecord.returned, State.dataRecord, State.dataOutput, ok]

theorem State.length_returned (s : State) (pushReq popReq : Bool) (data : Bus) :
    (s.dataRecord pushReq popReq data).returned.toList.length = (s.popOk popReq).toNat := by
  rw [State.dataRecord_returned]
  cases s.popOk popReq <;> rfl

theorem State.length_pushed (s : State) (pushReq popReq : Bool) (data : Bus) :
    (s.dataRecord pushReq popReq data).pushed.toList.length = (s.pushOk pushReq).toNat := by
  cases ok : s.pushOk pushReq <;> simp [State.dataRecord, ok]

section ThroughQueue

variable {s : State} (ready : s.Ready) (pushReq popReq : Bool) (data : Bus)

include ready

theorem State.queue_eq_nil_iff : s.queue = [] ↔ s.head = s.tail := by
  rw [← List.length_eq_zero_iff, s.length_queue, State.count_eq_zero_iff ready]

theorem State.length_queue_eq_usable_iff :
    s.queue.length = s.params.C - 1 ↔ (s.tail + 1) % s.params.C = s.head := by
  rw [s.length_queue, State.count_eq_usable_iff ready]

theorem State.emptyPort_eq_queue : s.emptyPort = decide (s.queue = []) := by
  rw [s.emptyPort_of_constructed ready.1, decide_eq_decide, State.queue_eq_nil_iff ready]

theorem State.fullPort_eq_queue : s.fullPort = decide (s.queue.length = s.params.C - 1) := by
  rw [s.fullPort_of_constructed ready.1, decide_eq_decide, State.length_queue_eq_usable_iff ready]

theorem State.pushOk_eq_queue : s.pushOk pushReq = (pushReq && decide (s.queue.length < s.params.C - 1)) := by
  have below := s.count_lt
  rw [Bool.eq_iff_iff, s.pushOk_iff, Bool.and_eq_true, decide_eq_true_iff, Ne,
    ← State.length_queue_eq_usable_iff ready, s.length_queue]
  exact and_congr_right fun _ => by omega

theorem State.popOk_eq_queue : s.popOk popReq = (popReq && decide (s.queue ≠ [])) := by
  rw [Bool.eq_iff_iff, s.popOk_iff, Bool.and_eq_true, decide_eq_true_iff, Ne, Ne, State.queue_eq_nil_iff ready]

/-- A pop request is answered with the oldest element, if there is one. -/
theorem State.dataRecord_returned_eq_queue :
    (s.dataRecord pushReq popReq data).returned = if popReq then s.queue.head? else none := by
  rw [State.dataRecord_returned]
  by_cases empty : s.head = s.tail
  · simp [State.popOk_eq_false (.inr empty), State.queue_eq_nil_of_head_eq_tail empty]
  · rw [State.queue_eq_cons ready empty, List.head?_cons]
    simp [s.popOk_iff, empty]

theorem State.dataEdge_ready : (s.dataEdge pushReq popReq data).Ready := by
  have ⟨constructed, hhead, htail⟩ := ready
  refine ⟨by rw [State.dataEdge_constructed, constructed], ?_, ?_⟩
  · rw [State.dataEdge_params, State.dataEdge_head]
    split
    · exact s.params.next_lt _
    · exact hhead
  · rw [State.dataEdge_params, State.dataEdge_tail]
    split
    · exact s.params.next_lt _
    · exact htail

/-- The queue after the edge: an accepted pop took the front, an accepted push joined at the end. -/
theorem State.dataEdge_queue :
    (s.dataEdge pushReq popReq data).queue =
      (if s.popOk popReq then s.queue.drop 1 else s.queue) ++
        (if s.pushOk pushReq then [data.element s.params.W] else []) := by
  have pushed : (s.dataRecord pushReq popReq data).pushed.toList =
      if s.pushOk pushReq then [data.element s.params.W] else [] := by
    cases ok : s.pushOk pushReq <;> simp [State.dataRecord, ok]
  have history := State.returned_append_dataEdge_queue pushReq popReq data ready
  rw [pushed, State.dataRecord_returned_eq_queue ready] at history
  rw [State.popOk_eq_queue ready]
  cases popReq <;> cases hq : s.queue <;> simpa [hq] using history

end ThroughQueue

/-- Settles O36: the lengths of the queue before and after the edge differ by what was accepted and returned. -/
theorem countLaw : Obligations.CountLaw := by
  refine ⟨fun s t p q d r ready h trace => ?_, fun s t dropped h => ?_⟩
  · obtain ⟨rfl, rfl⟩ := eq_dataEdge_and_dataRecord (exec_decodeCmd_data p q d s ▸ h) trace
    refine ⟨?_, Nat.le_sub_one_of_lt (State.count_lt _), State.count_pos_of_popOk ready,
      State.count_lt_usable_of_pushOk ready⟩
    have lengths := congrArg List.length (State.returned_append_dataEdge_queue p q d ready)
    rw [List.length_append, List.length_append, State.length_returned, State.length_pushed,
      State.length_queue, State.length_queue] at lengths
    exact (Nat.add_comm ..).trans lengths
  · obtain rfl := exec_reset_next_iff.mp h
    rw [← State.length_queue, State.resetEdge_queue, List.length_nil]

/-- Settles O47: flags, answers, element and queue of a data edge, each read off the queue before it. -/
theorem cycleRefinesQueue : Obligations.CycleRefinesQueue := by
  refine ⟨fun s p q data ready clean => ?_, fun s t dropped h => ?_⟩
  · refine ⟨_, _, (exec_decodeCmd_data ..).trans (dataCycle_next p q data ready.1 clean),
      State.dataEdge_oneCycle ready.1 .., State.dataEdge_ready ready .., State.emptyPort_eq_queue ready,
      State.fullPort_eq_queue ready, State.pushOk_eq_queue ready p, State.popOk_eq_queue ready q, fun popped => ?_,
      State.dataEdge_queue ready p q data⟩
    have ok : s.popOk q = true := popped
    rw [State.dataRecord_popData_of_popOk ok, State.queue_eq_cons ready ((s.popOk_iff q).mp ok).2, List.head?_cons]
  · obtain rfl := exec_reset_next_iff.mp h
    exact State.resetEdge_queue ..

/-! ## The history over a run (R108, R109) -/

/-- Settles O48: the FIFO history is part of the invariant, which holds at the end of the run. -/
theorem fifoOrderOverRuns : Obligations.FifoOrderOverRuns := by
  intro s t n inv run constructed
  have fifo := (inv.of_runFor run).fifo constructed
  exact ⟨fifo, t.queue, fifo.symm⟩

/-- Settles O49: the lengths in the FIFO history, which is empty before the first reset edge. -/
theorem capacityInvariant : Obligations.CapacityInvariant := by
  intro s t n inv run
  have endInv := inv.of_runFor run
  have lengths (constructed : t.constructed = true) :
      (acceptedSinceReset t.trace).length = (returnedSinceReset t.trace).length + t.queue.length := by
    rw [endInv.fifo constructed, List.length_append]
  refine ⟨?_, lengths, t.capacityPort_eq, fun r hr => (endInv.records r hr).capacityValue⟩
  cases constructed : t.constructed with
  | false => simp [endInv.noCycleYet constructed, acceptedSinceReset]
  | true =>
    have below := t.count_lt
    rw [lengths constructed, t.length_queue]
    omega

/-! ## A refusal ends every run that comes to it (R114, log entry 13) -/

theorem runFor_add {n : Nat} {s t : State} (run : runFor n s = .next t) (m : Nat) :
    runFor (n + m) s = runFor m t := by
  induction n generalizing s with
  | zero =>
    obtain rfl : s = t := by simpa [runFor_zero] using run
    rw [Nat.zero_add]
  | succ n ih =>
    rw [Nat.add_right_comm, runFor_succ]
    rw [runFor_succ] at run
    split at run
    · exact ih run
    · cases run
    · cases run

theorem runFor_of_step_refused {n : Nat} {s t : State} {r : Refusal} (run : runFor n s = .next t)
    (refused : step t = .refused r) (k : Nat) : runFor (n + 1 + k) s = .refused r := by
  rw [Nat.add_assoc, runFor_add run, Nat.add_comm 1 k, runFor_succ, refused]

/-- A presented cycle with `rst = 0` is the data cycle of its requests. -/
theorem step_eq_dataCycle {s : State} {pushReq popReq : Bool} {data : Bus} {rest : List Event}
    (presented : s.events = .cycle (.clean false pushReq popReq data) :: rest) :
    step s = dataCycle pushReq popReq data (s.withEvents rest) :=
  (step_of_decodeEvent_eq_ok presented (decodeInput_clean ..)).trans (exec_decodeCmd_data ..)

/-- Settles O9: each of the three cycles is refused by its step. -/
theorem refusalLastsForTheRun : Obligations.RefusalLastsForTheRun := by
  refine fun s t n k run => ⟨fun inp rest presented unclean => ?_, fun p q data rest presented unbuilt => ?_,
    fun q data rest presented constructed room ⟨b, hb, unclean⟩ => ?_⟩
  · exact runFor_of_step_refused run
      (step_of_decodeEvent_eq_error presented (decodeInput_of_unclean unclean)) k
  · exact runFor_of_step_refused run
      ((step_eq_dataCycle presented).trans (dataCycle_of_not_constructed (t.withEvents rest) p q data unbuilt)) k
  · have push : (t.withEvents rest).pushOk true = true := (State.pushOk_iff _ true).mpr ⟨rfl, room⟩
    exact runFor_of_step_refused run
      ((step_eq_dataCycle presented).trans (dataCycle_of_unclean (t.withEvents rest) true q data constructed push
        (Bus.clean_eq_false_of_testBit hb unclean))) k

end Sys2Proof.Machine

/-! ## One block's life: steps that elaborate no new block -/

namespace Sys2Proof.Machine

theorem noElaboration_cons_iff {e : Event} {rest : List Event} :
    noElaboration (e :: rest) ↔ (∀ C W, e ≠ .elaborate C W) ∧ noElaboration rest := by
  simp [noElaboration, forall_and, eq_comm]

theorem ne_construct_of_decodeEvent {e : Event} {i : Instr} (noElab : ∀ C W, e ≠ .elaborate C W)
    (decoded : decodeEvent e = .ok i) (C W : Nat) : i ≠ .construct C W := by
  rintro rfl
  cases e with
  | cycle inp =>
    simp only [decodeEvent, decodeInput] at decoded
    split at decoded
    · next rst pushReq popReq _ _ _ => cases rst <;> cases pushReq <;> cases popReq <;> cases decoded
    · cases decoded
  | sample port => cases port <;> cases decoded
  | elaborate C' W' => exact noElab C' W' rfl

theorem step_of_events_eq_nil {s : State} (h : s.events = []) : step s = .next s := by
  simp only [step, h]

/-- No instruction takes an event from the stream or adds one: the step alone does. -/
theorem events_of_exec {s t : State} {i : Instr} (h : exec i s = .next t) : t.events = s.events := by
  obtain ⟨_, _, _, -, -, rfl, -⟩ | ⟨_, -, rfl⟩ | ⟨_, rfl⟩ | ⟨_, _, _, -, rfl⟩ := exec_next_cases s h
  · exact State.dataEdge_events ..
  · rfl
  · rfl
  · rfl

/-! ## Equal queues give equal observations (R107, 10_state.md R37) -/

/-- What a cycle answers to its requests, as the queue before it says. A RESET answers none. -/
def queueObserved (C : Nat) (queue : List Nat) (pushReq popReq : Bool) : Observed :=
  { pushOk := pushReq && decide (queue.length < C - 1)
    popOk := popReq && decide (queue ≠ [])
    empty := some (decide (queue = []))
    full := some (decide (queue.length = C - 1))
    capacity := C - 1
    popData := if popReq then queue.head? else none }

theorem State.dataRecord_observed {s : State} (ready : s.Ready) (pushReq popReq : Bool) (data : Bus) :
    (s.dataRecord pushReq popReq data).observed = queueObserved s.params.C s.queue pushReq popReq := by
  rw [queueObserved, ← State.pushOk_eq_queue ready, ← State.popOk_eq_queue ready, ← State.emptyPort_eq_queue ready,
    ← State.fullPort_eq_queue ready, ← s.capacityPort_eq,
    ← State.dataRecord_returned_eq_queue ready pushReq popReq data]
  simp [CycleRecord.observed, CycleRecord.returned, State.dataRecord, State.dataOutput, ready.1]

theorem State.resetRecord_observed {s : State} (ready : s.Ready) (pushReq popReq : Bool) :
    (s.resetRecord pushReq popReq).observed = queueObserved s.params.C s.queue false false := by
  rw [queueObserved, ← State.emptyPort_eq_queue ready, ← State.fullPort_eq_queue ready, ← s.capacityPort_eq]
  simp [CycleRecord.observed, State.resetRecord, State.resetOutput, ready.1]

/-- Outcomes that are the same from outside are both a next state, and these look alike, or one and the same stop. -/
theorem SameOutcome.cases {a b : Host.Outcome State Fault Refusal} (same : SameOutcome a b) :
    (∃ s t, a = .next s ∧ b = .next t ∧ SameView s t) ∨ (∃ r, a = .fault r ∧ b = .fault r) ∨
      ∃ r, a = .refused r ∧ b = .refused r := by
  cases a with
  | next s =>
    cases b with
    | next t => exact .inl ⟨s, t, rfl, rfl, same⟩
    | fault _ | refused _ => exact same.elim
  | fault r =>
    cases b with
    | fault r' => exact .inr (.inl ⟨r, rfl, congrArg _ (Eq.symm same)⟩)
    | next _ | refused _ => exact same.elim
  | refused r =>
    cases b with
    | refused r' => exact .inr (.inr ⟨r, rfl, congrArg _ (Eq.symm same)⟩)
    | next _ | fault _ => exact same.elim

section SameView

variable {s t : State} (view : SameView s t)

include view

theorem SameView.withEvents (es : List Event) : SameView (s.withEvents es) (t.withEvents es) :=
  { view with events := rfl }

theorem SameView.withSample {v w : Sample} (same : v = w) : SameView (s.withSample v) (t.withSample w) :=
  { view with lastSample := congrArg some same }

/-- Two cycles seen alike, with the same queue after them, keep the view. -/
theorem SameView.of_oneCycle {s' t' : State} {r r' : CycleRecord} (left : s.OneCycle s' r) (right : t.OneCycle t' r')
    (ready_left : s'.Ready) (ready_right : t'.Ready) (queue : s'.queue = t'.queue)
    (observed : r.observed = r'.observed) : SameView s' t' where
  ready_left := ready_left
  ready_right := ready_right
  params := by rw [left.params, right.params, view.params]
  queue := queue
  events := by rw [left.events, right.events, view.events]
  observation := by
    have before : s.trace.map CycleRecord.observed = t.trace.map CycleRecord.observed := view.observation
    simp [State.observation, left.trace, right.trace, before, observed]
  lastSample := by rw [left.lastSample, right.lastSample, view.lastSample]

theorem SameView.resetEdge (pushReq popReq : Bool) :
    SameView (s.resetEdge pushReq popReq) (t.resetEdge pushReq popReq) :=
  view.of_oneCycle (s.resetEdge_oneCycle ..) (t.resetEdge_oneCycle ..) (s.resetEdge_ready ..) (t.resetEdge_ready ..)
    (by rw [State.resetEdge_queue, State.resetEdge_queue])
    (by rw [State.resetRecord_observed view.ready_left, State.resetRecord_observed view.ready_right, view.params,
      view.queue])

theorem SameView.pushOk_eq (pushReq : Bool) : s.pushOk pushReq = t.pushOk pushReq := by
  rw [State.pushOk_eq_queue view.ready_left, State.pushOk_eq_queue view.ready_right, view.params, view.queue]

theorem SameView.popOk_eq (popReq : Bool) : s.popOk popReq = t.popOk popReq := by
  rw [State.popOk_eq_queue view.ready_left, State.popOk_eq_queue view.ready_right, view.queue]

theorem SameView.emptyPort_eq : s.emptyPort = t.emptyPort := by
  rw [State.emptyPort_eq_queue view.ready_left, State.emptyPort_eq_queue view.ready_right, view.queue]

theorem SameView.fullPort_eq : s.fullPort = t.fullPort := by
  rw [State.fullPort_eq_queue view.ready_left, State.fullPort_eq_queue view.ready_right, view.params, view.queue]

theorem SameView.capacityPort_eq : s.capacityPort = t.capacityPort := by
  rw [s.capacityPort_eq, t.capacityPort_eq, view.params]

theorem SameView.dataEdge (pushReq popReq : Bool) (data : Bus) :
    SameView (s.dataEdge pushReq popReq data) (t.dataEdge pushReq popReq data) :=
  view.of_oneCycle (State.dataEdge_oneCycle view.ready_left.1 ..) (State.dataEdge_oneCycle view.ready_right.1 ..)
    (State.dataEdge_ready view.ready_left ..) (State.dataEdge_ready view.ready_right ..)
    (by rw [State.dataEdge_queue view.ready_left, State.dataEdge_queue view.ready_right, view.pushOk_eq, view.popOk_eq,
      view.params, view.queue])
    (by rw [State.dataRecord_observed view.ready_left, State.dataRecord_observed view.ready_right, view.params,
      view.queue])

theorem SameView.dataCycle (pushReq popReq : Bool) (data : Bus) :
    SameOutcome (dataCycle pushReq popReq data s) (dataCycle pushReq popReq data t) := by
  by_cases unclean : s.pushOk pushReq = true ∧ data.clean s.params.W = false
  · obtain ⟨ok, unclean⟩ := unclean
    rw [dataCycle_of_unclean s pushReq popReq data view.ready_left.1 ok unclean,
      dataCycle_of_unclean t pushReq popReq data view.ready_right.1 (view.pushOk_eq pushReq ▸ ok)
        (view.params ▸ unclean)]
    rfl
  · have clean : s.pushOk pushReq = true → data.clean s.params.W = true := by simpa using unclean
    rw [dataCycle_of_clean s pushReq popReq data view.ready_left.1 clean,
      dataCycle_of_clean t pushReq popReq data view.ready_right.1 (view.pushOk_eq pushReq ▸ view.params ▸ clean)]
    exact view.dataEdge pushReq popReq data

theorem SameView.exec {i : Instr} (notConstruct : ∀ C W, i ≠ .construct C W) :
    SameOutcome (exec i s) (exec i t) := by
  cases i with
  | nop => exact view.dataCycle false false _
  | pop => exact view.dataCycle false true _
  | push data => exact view.dataCycle true false data
  | pushPop data => exact view.dataCycle true true data
  | reset dropped => exact view.resetEdge _ _
  | empty => exact view.withSample (congrArg Sample.empty view.emptyPort_eq)
  | full => exact view.withSample (congrArg Sample.full view.fullPort_eq)
  | capacity => exact view.withSample (congrArg Sample.capacity view.capacityPort_eq)
  | construct C W => exact absurd rfl (notConstruct C W)

/-- States that look alike step alike, as long as no new block is elaborated. -/
theorem SameView.step (oneBlock : noElaboration s.events) : SameOutcome (step s) (step t) := by
  cases hs : s.events with
  | nil =>
    have ht : t.events = [] := view.events ▸ hs
    rw [step_of_events_eq_nil hs, step_of_events_eq_nil ht]
    exact view
  | cons e rest =>
    have ht : t.events = e :: rest := view.events ▸ hs
    rw [hs, noElaboration_cons_iff] at oneBlock
    cases decoded : decodeEvent e with
    | error r => rw [step_of_decodeEvent_eq_error hs decoded, step_of_decodeEvent_eq_error ht decoded]; rfl
    | ok i =>
      rw [step_of_decodeEvent_eq_ok hs decoded, step_of_decodeEvent_eq_ok ht decoded]
      exact (view.withEvents rest).exec (ne_construct_of_decodeEvent oneBlock.1 decoded)

end SameView

/-- In one block's life a step that completes held the state, for want of an event, or ran an instruction other than
CONSTRUCT with the event taken. -/
theorem step_next_cases_of_noElaboration {s t : State} (oneBlock : noElaboration s.events)
    (h : step s = .next t) :
    t = s ∨ ∃ i rest, (∀ C W, i ≠ .construct C W) ∧ noElaboration rest ∧
      exec i (s.withEvents rest) = .next t := by
  cases hs : s.events with
  | nil =>
    rw [step_of_events_eq_nil hs] at h
    exact .inl (by simpa using h.symm)
  | cons e rest =>
    rw [hs, noElaboration_cons_iff] at oneBlock
    cases decoded : decodeEvent e with
    | error r => rw [step_of_decodeEvent_eq_error hs decoded] at h; cases h
    | ok i =>
      rw [step_of_decodeEvent_eq_ok hs decoded] at h
      exact .inr ⟨i, rest, ne_construct_of_decodeEvent oneBlock.1 decoded, oneBlock.2, h⟩

theorem noElaboration_of_step {s t : State} (oneBlock : noElaboration s.events) (h : step s = .next t) :
    noElaboration t.events := by
  obtain rfl | ⟨i, rest, -, kept, hexec⟩ := step_next_cases_of_noElaboration oneBlock h
  · exact oneBlock
  · rw [events_of_exec hexec]
    exact kept

/-- Settles O53: states that look alike step alike, by induction on the length of the run. -/
theorem equalQueuesGiveEqualObservations : Obligations.EqualQueuesGiveEqualObservations := by
  intro s t n view oneBlock
  induction n generalizing s t with
  | zero => exact view
  | succ n ih =>
    rw [runFor_succ, runFor_succ]
    obtain ⟨u, w, hs, ht, same⟩ | ⟨r, hs, ht⟩ | ⟨r, hs, ht⟩ := (view.step oneBlock).cases <;> rw [hs, ht]
    · exact ih u w same (noElaboration_of_step oneBlock hs)
    · rfl
    · rfl

end Sys2Proof.Machine

/-! ## Full detection (R110) -/

namespace Sys2Proof.Machine

theorem CycleRecord.returned_eq_some_iff {r : CycleRecord} {v : Nat} :
    r.returned = some v ↔ r.out.popOk = true ∧ r.out.popData = v := by
  simp [CycleRecord.returned]

theorem State.withEvents_queue (s : State) (es : List Event) : (s.withEvents es).queue = s.queue := rfl

section Commands

variable {s : State} (ready : s.Ready)

include ready

theorem exists_accepted_push (room : s.queue.length < s.params.C - 1) {data : Bus}
    (clean : data.unclean % 2 ^ s.params.W = 0) :
    ∃ t r, exec (.push data) s = .next t ∧ s.OneCycle t r ∧ t.Ready ∧ r.out.pushOk = true ∧
      t.queue = s.queue ++ [data.element s.params.W] := by
  have push : s.pushOk true = true := by simpa [State.pushOk_eq_queue ready] using room
  have pop : s.popOk false = false := rfl
  refine ⟨_, _, dataCycle_next true false data ready.1 clean, State.dataEdge_oneCycle ready.1 ..,
    State.dataEdge_ready ready .., push, ?_⟩
  simp [State.dataEdge_queue ready, push, pop]

theorem exists_full_push (full : s.queue.length = s.params.C - 1) (data : Bus) :
    ∃ t r, exec (.push data) s = .next t ∧ s.OneCycle t r ∧ t.Ready ∧ r.out.pushOk = false ∧
      r.pushResult = 2 ∧ t.queue = s.queue := by
  have push : s.pushOk true = false := by simp [State.pushOk_eq_queue ready, full]
  have pop : s.popOk false = false := rfl
  refine ⟨_, _, dataCycle_of_rejected push false ready.1 data, State.dataEdge_oneCycle ready.1 ..,
    State.dataEdge_ready ready .., push, State.pushResult_dataRecord_of_rejected push .., ?_⟩
  simp [State.dataEdge_queue ready, push, pop]

theorem exists_pop_of_oldest :
    ∃ t r, exec .pop s = .next t ∧ s.OneCycle t r ∧ ∀ v, s.queue.head? = some v → r.returned = some v := by
  have push : s.pushOk false = false := rfl
  exact ⟨_, _, dataCycle_of_rejected push true ready.1 _, State.dataEdge_oneCycle ready.1 ..,
    fun _ => (State.dataRecord_returned_eq_queue ready false true _).trans⟩

end Commands

/-- Pushes back to back that the queue has room for are all accepted, and join it in their order. -/
theorem exists_run_of_pushes {vs : List Nat} {s : State} {rest : List Event} (ready : s.Ready)
    (presented : s.events = vs.map (fun v => encodeEvent (.push (Bus.ofNat v))) ++ rest)
    (room : s.queue.length + vs.length ≤ s.params.C - 1) (fits : ∀ v ∈ vs, v < 2 ^ s.params.W) :
    ∃ t rs, runFor vs.length s = .next t ∧ t.trace = s.trace ++ rs ∧ rs.length = vs.length ∧
      (∀ a ∈ rs, a.out.pushOk = true) ∧ t.queue = s.queue ++ vs ∧ t.Ready ∧ t.params = s.params ∧
      t.events = rest := by
  induction vs generalizing s with
  | nil => exact ⟨s, [], rfl, by simp, rfl, by simp, by simp, ready, rfl, presented⟩
  | cons v vs ih =>
    obtain ⟨fits_v, fits_vs⟩ := List.forall_mem_cons.mp fits
    rw [List.length_cons] at room
    obtain ⟨u, r, pushed, cycle, ready_u, accepted, queue_u⟩ :=
      exists_accepted_push (s := s.withEvents (vs.map (fun v => encodeEvent (.push (Bus.ofNat v))) ++ rest)) ready
        (show s.queue.length < s.params.C - 1 by omega) (data := Bus.ofNat v) (Nat.zero_mod _)
    have params_u : u.params = s.params := cycle.params
    have element : (Bus.ofNat v).element s.params.W = v := Nat.mod_eq_of_lt fits_v
    rw [State.withEvents_queue, State.withEvents_params, element] at queue_u
    have pushes : step s = .next u := (step_of_decodeEvent_eq_ok presented rfl).trans pushed
    obtain ⟨t, rs, run, trace, length, all_accepted, queue_t, ready_t, params_t, events_t⟩ :=
      ih ready_u cycle.events (by rw [queue_u, params_u, List.length_append, List.length_singleton]; omega)
        (params_u ▸ fits_vs)
    refine ⟨t, r :: rs, ?_, ?_, congrArg (· + 1) length, List.forall_mem_cons.mpr ⟨accepted, all_accepted⟩, ?_,
      ready_t, params_t.trans params_u, events_t⟩
    · rw [List.length_cons, runFor_succ, pushes]
      exact run
    · rw [trace, cycle.trace, State.withEvents_trace, List.append_assoc, List.singleton_append]
    · rw [queue_t, queue_u, List.append_assoc, List.singleton_append]

/-- Settles O50: the pushes fill the queue, so the next is `Full` and the pop takes the front. -/
theorem fullDetection : Obligations.FullDetection := by
  intro s vs w rest ready empty length fits fits_w presented
  obtain ⟨t, rs, run, trace, rs_length, accepted, queue_t, ready_t, params_t, events_t⟩ :=
    exists_run_of_pushes (vs := vs) (rest := encodeEvent (.push (Bus.ofNat w)) :: encodeEvent .pop :: rest) ready
      (by simpa using presented) (by simp [empty, length]) fits
  rw [empty, List.nil_append] at queue_t
  obtain ⟨u, r, pushed, cycle_u, ready_u, rejected, code, queue_u⟩ :=
    exists_full_push (s := t.withEvents (encodeEvent .pop :: rest)) ready_t
      (show t.queue.length = t.params.C - 1 by rw [queue_t, params_t, length]) (Bus.ofNat w)
  rw [State.withEvents_queue, queue_t] at queue_u
  obtain ⟨x, r', popped, cycle_x, oldest⟩ := exists_pop_of_oldest (s := u.withEvents rest) ready_u
  exact ⟨t, u, x, rs, r, r', run, trace, rs_length, accepted, queue_t,
    (step_of_decodeEvent_eq_ok events_t rfl).trans pushed, cycle_u.trace, rejected, code, queue_u,
    (step_of_decodeEvent_eq_ok cycle_u.events rfl).trans popped, cycle_x.trace,
    fun v hv => CycleRecord.returned_eq_some_iff.mp (oldest v (by rw [State.withEvents_queue, queue_u, hv]))⟩

/-! ## Full detection with other cycles in between -/

/-- Every push the records request was accepted, and the queue is what they pushed. -/
structure FilledBy (queue : List Nat) (rs : List CycleRecord) : Prop where
  accepted : ∀ a ∈ rs, a.pushReq = true → a.out.pushOk = true
  queue_eq : queue = rs.filterMap (·.pushed)
  length_eq : queue.length = (rs.filter (·.pushReq)).length

theorem FilledBy.concat {queue : List Nat} {rs : List CycleRecord} (filled : FilledBy queue rs) {r : CycleRecord}
    (accepted : r.out.pushOk = r.pushReq) (pushed : r.pushed.toList.length = r.out.pushOk.toNat) :
    FilledBy (queue ++ r.pushed.toList) (rs ++ [r]) where
  accepted := List.forall_mem_append.mpr
    ⟨filled.accepted, List.forall_mem_singleton.mpr fun request => accepted.trans request⟩
  queue_eq := by
    rw [List.filterMap_append, ← filled.queue_eq]
    cases h : r.pushed <;> simp [h]
  length_eq := by
    rw [List.length_append, List.filter_append, List.length_append, filled.length_eq, pushed, accepted]
    cases h : r.pushReq <;> simp [h]

/-- From `s` to `t` one block lived on; and if it was neither reset nor popped, nor asked for more than `C - 1` pushes,
the pushes since `s` are what fills the queue. -/
structure FilledSince (s t : State) : Prop where
  oneBlock : noElaboration t.events
  ready : t.Ready
  params : t.params = s.params
  filled : ∃ rs, t.trace = s.trace ++ rs ∧ ((∀ a ∈ rs, a.rst = false ∧ a.out.popOk = false) →
    (rs.filter (·.pushReq)).length ≤ s.params.C - 1 → FilledBy t.queue rs)

theorem FilledSince.refl {s : State} (oneBlock : noElaboration s.events) (ready : s.Ready) (empty : s.queue = []) :
    FilledSince s s :=
  ⟨oneBlock, ready, rfl, [], (List.append_nil _).symm, fun _ _ => ⟨nofun, empty, by rw [empty]; rfl⟩⟩

section FilledSince

variable {s t : State} (since : FilledSince s t)

include since

theorem FilledSince.withEvents {es : List Event} (oneBlock : noElaboration es) : FilledSince s (t.withEvents es) :=
  { since with oneBlock := oneBlock }

theorem FilledSince.withSample (v : Sample) : FilledSince s (t.withSample v) := { since with }

/-- A reset edge leaves a record with `rst = 1`, of which nothing is claimed. -/
theorem FilledSince.resetEdge (pushReq popReq : Bool) : FilledSince s (t.resetEdge pushReq popReq) := by
  obtain ⟨rs, trace, -⟩ := since.filled
  refine ⟨since.oneBlock, t.resetEdge_ready .., since.params, rs ++ [t.resetRecord pushReq popReq], ?_,
    fun quiet _ => ?_⟩
  · rw [State.resetEdge_trace, trace, List.append_assoc]
  · obtain ⟨notReset, -⟩ := List.forall_mem_singleton.mp (List.forall_mem_append.mp quiet).2
    cases notReset

/-- A push that is still within the room is accepted, and joins the queue. -/
theorem FilledSince.dataEdge (pushReq popReq : Bool) (data : Bus) :
    FilledSince s (t.dataEdge pushReq popReq data) := by
  obtain ⟨rs, trace, filled⟩ := since.filled
  refine ⟨?_, State.dataEdge_ready since.ready .., ?_, rs ++ [t.dataRecord pushReq popReq data], ?_,
    fun quiet room => ?_⟩
  · rw [State.dataEdge_events]
    exact since.oneBlock
  · rw [State.dataEdge_params, since.params]
  · rw [State.dataEdge_trace, trace, List.append_assoc]
  · obtain ⟨quiet_rs, quiet_r⟩ := List.forall_mem_append.mp quiet
    obtain ⟨-, notPopped⟩ := List.forall_mem_singleton.mp quiet_r
    have request : (t.dataRecord pushReq popReq data).pushReq = pushReq := rfl
    simp only [List.filter_append, List.length_append, List.filter_singleton, request] at room
    have before := filled quiet_rs (by omega)
    have accepted : t.pushOk pushReq = pushReq := by
      cases pushReq with
      | false => rfl
      | true =>
        have room : t.queue.length < t.params.C - 1 := by
          rw [before.length_eq, since.params]
          exact room
        simpa [State.pushOk_eq_queue since.ready] using room
    have returned : (t.dataRecord pushReq popReq data).returned = none := by simp [CycleRecord.returned, notPopped]
    have queue := State.returned_append_dataEdge_queue pushReq popReq data since.ready
    rw [returned, Option.toList_none, List.nil_append] at queue
    rw [queue]
    exact before.concat accepted (t.length_pushed ..)

theorem FilledSince.step {u : State} (h : step t = .next u) : FilledSince s u := by
  obtain rfl | ⟨i, rest, notConstruct, oneBlock, hexec⟩ := step_next_cases_of_noElaboration since.oneBlock h
  · exact since
  · have since := since.withEvents oneBlock
    obtain ⟨pushReq, popReq, data, rfl, -, -⟩ | ⟨dropped, -, rfl⟩ | ⟨v, rfl⟩ := exec_next_requests notConstruct hexec
    · exact since.dataEdge pushReq popReq data
    · exact since.resetEdge ..
    · exact since.withSample v

end FilledSince

/-- Settles O57: the filling is kept over the run, and `C - 1` pushes of it make the queue full. -/
theorem fullDetectionAmongOtherCycles : Obligations.FullDetectionAmongOtherCycles := by
  intro s t n rs ready empty oneBlock run trace quiet
  have since : FilledSince s t :=
    runFor_induction (fun _ _ since => since.step) (FilledSince.refl oneBlock ready empty) run
  obtain ⟨rs', trace', filled⟩ := since.filled
  obtain rfl : rs' = rs := List.append_cancel_left (trace'.symm.trans trace)
  refine ⟨fun room => ?_, fun requested data => ?_⟩
  · obtain ⟨accepted, queue_eq, length_eq⟩ := filled quiet room
    exact ⟨accepted, queue_eq, length_eq⟩
  · obtain ⟨-, queue_eq, length_eq⟩ := filled quiet requested.le
    obtain ⟨u, r, pushed, cycle_u, ready_u, rejected, code, queue_u⟩ :=
      exists_full_push since.ready (by rw [length_eq, requested, since.params]) data
    obtain ⟨x, r', popped, cycle_x, oldest⟩ := exists_pop_of_oldest ready_u
    exact ⟨u, r, pushed, cycle_u.trace, rejected, code, queue_u, x, r', popped, cycle_x.trace,
      fun v hv => oldest v (by rw [queue_u, queue_eq, hv])⟩

end Sys2Proof.Machine

/-! # Proofs: status outputs (42_status.md) -/

/-! ## Sampling a status output (R120 to R122) -/

namespace Sys2Proof.Machine

theorem exec_empty (s : State) : exec .empty s = .next (s.withSample (.empty s.emptyPort)) := rfl

theorem exec_full (s : State) : exec .full s = .next (s.withSample (.full s.fullPort)) := rfl

theorem exec_capacity (s : State) : exec .capacity s = .next (s.withSample (.capacity s.capacityPort)) := rfl

/-- Settles O26: the port shows `C - 1` whether or not the block is constructed. -/
theorem capacitySampleIsConstant : Obligations.CapacitySampleIsConstant := by
  intro s
  rw [exec_capacity, s.capacityPort_eq]

/-- Settles O27: the samples are what the two ports show, the free values included. -/
theorem flagSamplesCompleteBeforeReset : Obligations.FlagSamplesCompleteBeforeReset := fun s =>
  ⟨s.emptyPort, s.fullPort, exec_empty s, exec_full s⟩

/-! ## A flag and the answer to a request in the same state (R120, R121, 60_exceptions.md R133) -/

theorem exec_pop (s : State) : exec .pop s = dataCycle false true (Bus.ofNat 0) s := rfl

theorem exec_push (data : Bus) (s : State) : exec (.push data) s = dataCycle true false data s := rfl

section Answers

variable {s : State} {pushReq popReq : Bool} {data : Bus}

theorem State.pushOk_true_eq_false_iff : s.pushOk true = false ↔ (s.tail + 1) % s.params.C = s.head := by
  rw [← Bool.not_eq_true, s.pushOk_iff]
  simp

theorem State.popOk_true_eq_false_iff : s.popOk true = false ↔ s.head = s.tail := by
  rw [← Bool.not_eq_true, s.popOk_iff]
  simp

theorem State.pushResult_dataRecord_eq_two_iff :
    (s.dataRecord true popReq data).pushResult = 2 ↔ s.pushOk true = false := by
  cases ok : s.pushOk true with
  | false => simp [State.pushResult_dataRecord_of_rejected ok]
  | true => simp [State.pushResult_dataRecord_of_pushOk ok]

theorem State.popResult_dataRecord_eq_two_iff :
    (s.dataRecord pushReq true data).popResult = 2 ↔ s.popOk true = false := by
  cases ok : s.popOk true with
  | false => simp [State.popResult_dataRecord_of_rejected ok]
  | true => simp [State.popResult_dataRecord_of_popOk ok]

/-- A data cycle has one record only, the edge's, so what holds of some record of it holds of the edge's. -/
theorem exists_dataCycle_record_iff {holds : CycleRecord → Prop} (constructed : s.constructed = true)
    (completes : holds (s.dataRecord pushReq popReq data) →
      dataCycle pushReq popReq data s = .next (s.dataEdge pushReq popReq data)) :
    (∃ t r, dataCycle pushReq popReq data s = .next t ∧ s.OneCycle t r ∧ holds r) ↔
      holds (s.dataRecord pushReq popReq data) := by
  constructor
  · rintro ⟨t, r, next, cycle, said⟩
    obtain ⟨-, rfl⟩ := eq_dataEdge_and_dataRecord next cycle.trace
    exact said
  · exact fun said => ⟨_, _, completes said, State.dataEdge_oneCycle constructed .., said⟩

end Answers

/-- Settles O24: the port and the pop's answer both say whether `head = tail`. -/
theorem emptySampleIsExact : Obligations.EmptySampleIsExact := by
  intro s constructed
  rw [exec_empty, exec_pop, s.emptyPort_of_constructed constructed, decide_eq_true_iff,
    exists_dataCycle_record_iff (holds := fun r => r.popResult = 2) constructed
      fun _ => dataCycle_of_rejected rfl true constructed _,
    State.popResult_dataRecord_eq_two_iff, State.popOk_true_eq_false_iff]
  exact ⟨rfl, Iff.rfl⟩

/-- Settles O25: the port and the push's answer both say whether the slot after `tail` is `head`; a push answered with
`Full` completes whatever its data carries. -/
theorem fullSampleIsExact : Obligations.FullSampleIsExact := by
  intro s constructed
  rw [exec_full, s.fullPort_of_constructed constructed, decide_eq_true_iff]
  refine ⟨rfl, fun data => ?_⟩
  rw [exec_push, exists_dataCycle_record_iff (holds := fun r => r.pushResult = 2) constructed fun rejected =>
      dataCycle_of_rejected (State.pushResult_dataRecord_eq_two_iff.mp rejected) false constructed data,
    State.pushResult_dataRecord_eq_two_iff, State.pushOk_true_eq_false_iff]

/-! ## The pairs of flags (R125) -/

section FlagPair

variable {s : State} (ready : s.Ready)

include ready

theorem State.emptyPort_eq_count : s.emptyPort = decide (s.count = 0) := by
  rw [s.emptyPort_of_constructed ready.1, decide_eq_decide, State.count_eq_zero_iff ready]

theorem State.fullPort_eq_count : s.fullPort = decide (s.count = s.params.C - 1) := by
  rw [State.fullPort_eq_queue ready, s.length_queue]

end FlagPair

/-- Settles O29: `empty` says that the count is 0, `full` that it is `C - 1`, and these differ from `C = 2` on. -/
theorem flagsTogether : Obligations.FlagsTogether := by
  intro s ready
  have C_pos := s.params.C_pos
  simp only [State.emptyPort_eq_count ready, State.fullPort_eq_count ready, decide_eq_true_iff, decide_eq_false_iff_not]
  exact ⟨by omega, fun two_le => ⟨by omega, by omega, fun nonzero notUsable => ⟨nonzero, notUsable⟩⟩⟩

/-! ## The status over two cycles (R124) -/

/-- Whatever its command, a cycle of a constructed block shows the status of the state before its edge. -/
theorem showsStatus_of_exec_decodeCmd {s t : State} {rst pushReq popReq : Bool} {data : Bus} {r : CycleRecord}
    (constructed : s.constructed = true) (h : exec (decodeCmd rst pushReq popReq data) s = .next t)
    (trace : t.trace = s.trace ++ [r]) : s.ShowsStatus r := by
  cases rst with
  | false =>
    rw [exec_decodeCmd_data] at h
    obtain ⟨-, rfl⟩ := eq_dataEdge_and_dataRecord h trace
    exact State.dataRecord_showsStatus constructed ..
  | true =>
    rw [exec_decodeCmd_reset] at h
    cases h
    obtain rfl : s.resetRecord pushReq popReq = r := by simpa using trace
    exact s.resetRecord_showsStatus _ _ constructed

/-- Settles O30: a data edge that accepts nothing keeps both indices, and each cycle shows the status of the state it
starts from. -/
theorem statusIdempotent : Obligations.StatusIdempotent := by
  intro s t u p q p' q' rst' d d' r r' first trace pushRejected popRejected second trace'
  rw [exec_decodeCmd_data] at first
  obtain ⟨constructed, -, -⟩ := (dataCycle_next_iff ..).mp first
  obtain ⟨rfl, rfl⟩ := eq_dataEdge_and_dataRecord first trace
  obtain ⟨head, tail, -, -⟩ := State.dataEdge_of_both_rejected (s := s) pushRejected popRejected d
  have before := State.dataRecord_showsStatus constructed p q d
  have after := showsStatus_of_exec_decodeCmd ((s.dataEdge_constructed p q d).trans constructed) second trace'
  rw [after.empty, after.full, after.capacity, before.empty, before.full, before.capacity, head, tail,
    State.dataEdge_params]
  exact ⟨rfl, rfl, rfl⟩

end Sys2Proof.Machine

/-! # Proofs: exceptions (60_exceptions.md) -/

namespace Sys2Proof.Machine

/-! ## The result codes (R133) -/

/-- The table of R133: the condition under which each code stands. -/
theorem resultCode_table : ∀ rst req ok : Bool,
    (resultCode rst req ok = 0 ↔ req = false) ∧
    (resultCode rst req ok = 1 ↔ rst = false ∧ req = true ∧ ok = true) ∧
    (resultCode rst req ok = 2 ↔ rst = false ∧ req = true ∧ ok = false) ∧
    (resultCode rst req ok = 3 ↔ rst = true ∧ req = true) := by
  decide

/-- A reset drops a request whatever its answer (R134). -/
theorem resultCode_of_rst (req ok : Bool) : resultCode true req ok = if req then 3 else 0 := rfl

/-- Whatever its command, a cycle's record holds the `rst` and the requests of that command. -/
theorem requests_of_exec_decodeCmd {s t : State} {rst pushReq popReq : Bool} {data : Bus} {r : CycleRecord}
    (h : exec (decodeCmd rst pushReq popReq data) s = .next t) (trace : t.trace = s.trace ++ [r]) :
    r.rst = rst ∧ r.pushReq = pushReq ∧ r.popReq = popReq := by
  cases rst with
  | false =>
    rw [exec_decodeCmd_data] at h
    obtain ⟨-, rfl⟩ := eq_dataEdge_and_dataRecord h trace
    exact ⟨rfl, rfl, rfl⟩
  | true =>
    rw [exec_decodeCmd_reset] at h
    cases h
    obtain rfl : s.resetRecord pushReq popReq = r := by simpa using trace
    exact ⟨rfl, rfl, rfl⟩

/-- Settles O40: each side's code is that of its own request and answer, under the cycle's own `rst`. -/
theorem resultCodes : Obligations.ResultCodes := by
  intro s t rst p q data r h trace
  obtain ⟨rfl, rfl, rfl⟩ := requests_of_exec_decodeCmd h trace
  obtain ⟨push0, push1, push2, push3⟩ := resultCode_table r.rst r.pushReq r.out.pushOk
  exact ⟨rfl, rfl, rfl, push0, push1, push2, push3, resultCode_table r.rst r.popReq r.out.popOk⟩

/-! ## A rejected push and a dropped request (R131, R134) -/

/-- Settles O12: a full buffer turns the push away, and a push turned away reads no data wire. -/
theorem pushWhenFullChangesNothing : Obligations.PushWhenFullChangesNothing := by
  intro s data constructed full
  have push : s.pushOk true = false := State.pushOk_eq_false (.inr full)
  have pop : s.popOk false = false := rfl
  obtain ⟨head, tail, storage, read⟩ := State.dataEdge_of_both_rejected push pop data
  have fullShown : s.fullPort = true := (s.fullPort_of_constructed constructed).trans (decide_eq_true full)
  exact exists_completed_dataCycle constructed (dataCycle_of_rejected push false constructed data)
    ⟨head, tail, storage, read, push, pop, fullShown, State.dataRecord_pushed_of_rejected push ..,
      State.pushResult_dataRecord_of_rejected push ..⟩

/-- Settles O20: a reset edge writes no slot, and its record answers, takes and returns nothing. -/
theorem resetDropsRequests : Obligations.ResetDropsRequests := by
  intro s pushReq popReq data
  exact ⟨_, _, exec_decodeCmd_reset pushReq popReq data s, s.resetEdge_trace _ _, rfl, rfl, rfl, rfl,
    s.resetEdge_storage _ _, s.resetEdge_memRead _ _, resultCode_of_rst pushReq _, resultCode_of_rst popReq _⟩

/-! ## Faults and refusals (R135 to R137) -/

/-- An instruction is a data command, completes, or is a CONSTRUCT that faults: there is no other way to stop. -/
theorem exec_stop_cases (i : Instr) (s : State) :
    (∃ pushReq popReq data, i = decodeCmd false pushReq popReq data) ∨ (∃ t, exec i s = .next t) ∨
      ∃ C W, i = .construct C W ∧ exec i s = .fault (.configInvalid C W s.params.maxLog2C) := by
  cases i with
  | nop => exact .inl ⟨false, false, Bus.ofNat 0, rfl⟩
  | pop => exact .inl ⟨false, true, Bus.ofNat 0, rfl⟩
  | push data => exact .inl ⟨true, false, data, rfl⟩
  | pushPop data => exact .inl ⟨true, true, data, rfl⟩
  | reset dropped => exact .inr (.inl ⟨_, exec_reset dropped s⟩)
  | empty => exact .inr (.inl ⟨_, exec_empty s⟩)
  | full => exact .inr (.inl ⟨_, exec_full s⟩)
  | capacity => exact .inr (.inl ⟨_, exec_capacity s⟩)
  | construct C W =>
    by_cases legal : Config.legal C W s.params.maxLog2C = true
    · exact .inr (.inl ⟨_, exec_construct_of_legal legal⟩)
    · exact .inr (.inr ⟨C, W, rfl, exec_construct_of_not_legal legal⟩)

theorem decodeCmd_data_cases (pushReq popReq : Bool) (data : Bus) :
    decodeCmd false pushReq popReq data = .nop ∨ decodeCmd false pushReq popReq data = .pop ∨
      (∃ d, decodeCmd false pushReq popReq data = .push d) ∨ ∃ d, decodeCmd false pushReq popReq data = .pushPop d := by
  cases pushReq <;> cases popReq <;> simp [decodeCmd]

theorem decodeCmd_push_cases (popReq : Bool) (data : Bus) :
    decodeCmd false true popReq data = .push data ∨ decodeCmd false true popReq data = .pushPop data := by
  cases popReq <;> simp [decodeCmd]

/-- A data cycle is refused for want of a reset edge, or for an accepted push of unclean data. -/
theorem dataCycle_refused_cases {s : State} {pushReq popReq : Bool} {data : Bus} {r : Refusal}
    (h : dataCycle pushReq popReq data s = .refused r) :
    r = .notConstructed ∧ s.constructed = false ∨
      r = .inputUnknown ∧ s.constructed = true ∧ s.pushOk pushReq = true ∧ data.clean s.params.W = false := by
  cases constructed : s.constructed with
  | false =>
    rw [dataCycle_of_not_constructed s _ _ _ constructed] at h
    cases h
    exact .inl ⟨rfl, rfl⟩
  | true =>
    by_cases clean : s.pushOk pushReq = true → data.clean s.params.W = true
    · rw [dataCycle_of_clean s _ _ _ constructed clean] at h
      cases h
    · obtain ⟨ok, unclean⟩ : s.pushOk pushReq = true ∧ data.clean s.params.W = false := by simpa using clean
      rw [dataCycle_of_unclean s _ _ _ constructed ok unclean] at h
      cases h
      exact .inr ⟨rfl, rfl, ok, unclean⟩

/-- A fault is CONSTRUCT's, and names the parameters it was asked for (R135). -/
theorem construct_of_exec_eq_fault {s : State} {i : Instr} {f : Fault} (h : exec i s = .fault f) :
    ∃ C W, i = .construct C W ∧ f = .configInvalid C W s.params.maxLog2C := by
  obtain ⟨pushReq, popReq, data, rfl⟩ | ⟨t, next⟩ | ⟨C, W, rfl, fault⟩ := exec_stop_cases i s
  · rw [exec_decodeCmd_data] at h
    exact absurd h (dataCycle_ne_fault s _ _ _ f)
  · rw [next] at h
    cases h
  · rw [fault] at h
    cases h
    exact ⟨C, W, rfl, rfl⟩

/-- A refusal is that of a data cycle. -/
theorem dataCycle_of_exec_eq_refused {s : State} {i : Instr} {r : Refusal} (h : exec i s = .refused r) :
    ∃ pushReq popReq data, i = decodeCmd false pushReq popReq data ∧ dataCycle pushReq popReq data s = .refused r := by
  obtain ⟨pushReq, popReq, data, rfl⟩ | ⟨t, next⟩ | ⟨C, W, rfl, fault⟩ := exec_stop_cases i s
  · exact ⟨pushReq, popReq, data, rfl, exec_decodeCmd_data pushReq popReq data s ▸ h⟩
  · rw [next] at h
    cases h
  · rw [fault] at h
    cases h

/-- Settles O43: a fault comes from CONSTRUCT, a refusal from one of the two refusals of a data cycle. -/
theorem onlyNamedStops : Obligations.OnlyNamedStops := by
  refine fun s i => ⟨fun f => construct_of_exec_eq_fault, fun r h => ?_⟩
  obtain ⟨pushReq, popReq, data, rfl, refused⟩ := dataCycle_of_exec_eq_refused h
  obtain ⟨rfl, unbuilt⟩ | ⟨rfl, constructed, ok, unclean⟩ := dataCycle_refused_cases refused
  · exact .inl ⟨rfl, unbuilt, decodeCmd_data_cases pushReq popReq data⟩
  · obtain ⟨rfl, room⟩ := (s.pushOk_iff pushReq).mp ok
    refine .inr ⟨rfl, constructed, room, data, decodeCmd_push_cases popReq data, fun clean => ?_⟩
    rw [(data.clean_iff s.params.W).mpr clean] at unclean
    cases unclean

end Sys2Proof.Machine

/-! # Proofs: reset and hazards (70_reset_and_hazards.md) -/

namespace Sys2Proof.Machine

/-! ## The flags move only by their side (R169) -/

section CountMoves

variable {s t : State} {pushReq popReq : Bool} {data : Bus} {r : CycleRecord} (ready : s.Ready)
  (h : exec (decodeCmd false pushReq popReq data) s = .next t) (trace : t.trace = s.trace ++ [r])

include ready h trace

/-- Nothing but an accepted push makes the queue longer. -/
theorem pushOk_of_count_lt (grew : s.count < t.count) : r.out.pushOk = true := by
  obtain ⟨change, -⟩ := countLaw.1 s t pushReq popReq data r ready h trace
  exact Bool.toNat_eq_one.mp (by have := r.out.pushOk.toNat_le; omega)

/-- Nothing but an accepted pop makes the queue shorter. -/
theorem popOk_of_count_lt (shrank : t.count < s.count) : r.out.popOk = true := by
  obtain ⟨change, -⟩ := countLaw.1 s t pushReq popReq data r ready h trace
  exact Bool.toNat_eq_one.mp (by have := r.out.popOk.toNat_le; omega)

end CountMoves

/-- Settles O31: in a data cycle the flags follow the count, which only an accepted push raises and only an accepted pop
lowers; after a reset edge `empty` is 1, and `full` is 1 for `C = 1` alone, where it was 1 before. -/
theorem flagsMoveOnlyByTheirSide : Obligations.FlagsMoveOnlyByTheirSide := by
  intro s t rst p q d r ready h trace
  cases rst with
  | true =>
    obtain ⟨reset, -, -⟩ := requests_of_exec_decodeCmd h trace
    rw [exec_decodeCmd_reset] at h
    cases h
    obtain ⟨-, -, full_of_one⟩ := fullIffOneSlotLeft s ready
    refine ⟨fun _ nonempty => ?_, fun _ _ => .inr reset, fun _ _ => .inr reset, fun notFull full => ?_⟩
    · nomatch (s.resetEdge_emptyPort p q).symm.trans nonempty
    · obtain ⟨full_before, -, -⟩ := full_of_one ((s.resetEdge_fullPort_iff p q).mp full)
      nomatch notFull.symm.trans full_before
  | false =>
    have grew := pushOk_of_count_lt ready h trace
    have shrank := popOk_of_count_lt ready h trace
    have bound_s := s.count_lt
    have bound_t := t.count_lt
    rw [exec_decodeCmd_data] at h
    obtain ⟨rfl, -⟩ := eq_dataEdge_and_dataRecord h trace
    have ready_t := State.dataEdge_ready ready p q d
    simp only [State.emptyPort_eq_count ready, State.fullPort_eq_count ready, State.emptyPort_eq_count ready_t,
      State.fullPort_eq_count ready_t, State.dataEdge_params, decide_eq_true_iff, decide_eq_false_iff_not] at bound_t ⊢
    exact ⟨fun empty nonempty => grew (by omega), fun nonempty empty => .inl (shrank (by omega)),
      fun full notFull => .inl (shrank (by omega)), fun notFull full => grew (by omega)⟩

/-! ## A retry in the next cycle (R163, R164) -/

/-- R133: an accepted request is answered `OK`. -/
theorem resultCode_of_accepted {rst req ok : Bool} (notReset : rst = false) (request : req = true)
    (accepted : ok = true) : resultCode rst req ok = 1 := by
  rw [notReset, request, accepted]
  rfl

section Retry

variable {s : State} (ready : s.Ready)

include ready

/-- A POP of a queue that has an element is accepted, and returns the oldest. -/
theorem exists_accepted_pop {v : Nat} (oldest : s.queue.head? = some v) :
    ∃ t r, exec .pop s = .next t ∧ s.OneCycle t r ∧ r.popResult = 1 ∧ r.out.popData = v := by
  obtain ⟨t, r, popped, cycle, returns⟩ := exists_pop_of_oldest ready
  obtain ⟨rst, -, request⟩ :=
    requests_of_exec_decodeCmd (rst := false) (pushReq := false) (popReq := true) (data := Bus.ofNat 0) popped
      cycle.trace
  obtain ⟨ok, popData⟩ := CycleRecord.returned_eq_some_iff.mp (returns v oldest)
  exact ⟨t, r, popped, cycle, resultCode_of_accepted rst request ok, popData⟩

/-- A PUSH_POP of the empty buffer is `Empty` on the pop side; from `C = 2` on its push goes in alone. -/
theorem State.dataEdge_pushPop_of_empty (empty : s.queue = []) (data : Bus) :
    (s.dataRecord true true data).popResult = 2 ∧ (s.dataRecord true true data).returned = none ∧
      (2 ≤ s.params.C → (s.dataRecord true true data).pushResult = 1 ∧
        (s.dataEdge true true data).queue = [data.element s.params.W]) := by
  have pop : s.popOk true = false := by simp [State.popOk_eq_queue ready, empty]
  refine ⟨State.popResult_dataRecord_of_rejected pop .., by simp [State.dataRecord_returned, pop], fun two_le => ?_⟩
  have push : s.pushOk true = true := by
    simp only [State.pushOk_eq_queue ready, empty, List.length_nil, Bool.true_and, decide_eq_true_iff]
    omega
  exact ⟨State.pushResult_dataRecord_of_pushOk push .., by simp [State.dataEdge_queue ready, push, pop, empty]⟩

/-- A PUSH_POP of the full buffer is `Full` on the push side; from `C = 2` on its pop takes the oldest element. -/
theorem State.dataEdge_pushPop_of_full (full : s.queue.length = s.params.C - 1) (data : Bus) :
    (s.dataRecord true true data).pushResult = 2 ∧ (s.dataRecord true true data).pushed = none ∧
      (2 ≤ s.params.C → (s.dataRecord true true data).popResult = 1 ∧
        (s.dataEdge true true data).queue = s.queue.drop 1) := by
  have push : s.pushOk true = false := by simp [State.pushOk_eq_queue ready, full]
  refine ⟨State.pushResult_dataRecord_of_rejected push .., State.dataRecord_pushed_of_rejected push .., fun two_le => ?_⟩
  have nonempty : s.queue ≠ [] := List.ne_nil_of_length_pos (by omega)
  have pop : s.popOk true = true := by simp [State.popOk_eq_queue ready, nonempty]
  exact ⟨State.popResult_dataRecord_of_popOk pop .., by simp [State.dataEdge_queue ready, push, pop]⟩

end Retry

/-- Settles O51: a pop answers from the queue before its cycle, which the cycle's own push has not joined yet. -/
theorem pushVisibleToPopNextCycle : Obligations.PushVisibleToPopNextCycle := by
  refine ⟨fun s t p q data r v ready h trace returned => ?_, fun s data ready empty clean => ?_⟩
  · obtain ⟨-, rfl⟩ := eq_dataEdge_and_dataRecord (exec_decodeCmd_data p q data s ▸ h) trace
    rw [State.dataRecord_returned_eq_queue ready] at returned
    cases q with
    | false => cases returned
    | true => exact returned
  · obtain ⟨popEmpty, returnsNone, accepts⟩ := State.dataEdge_pushPop_of_empty ready empty data
    refine ⟨_, _, dataCycle_next true true data ready.1 clean, s.dataEdge_trace .., popEmpty, returnsNone,
      fun two_le => ?_⟩
    obtain ⟨pushed, queue⟩ := accepts two_le
    obtain ⟨u, r', popped, cycle, code, popData⟩ :=
      exists_accepted_pop (State.dataEdge_ready ready true true data) (congrArg List.head? queue)
    refine ⟨pushed, u, r', popped, cycle.trace, code, fun b hb => ?_⟩
    rw [popData, Bus.element, Nat.testBit_mod_two_pow, decide_eq_true hb, Bool.true_and]

/-- Settles O52: the slot a pop frees is still live in its cycle, so fullness stands until the edge and no longer. -/
theorem popFreesSlotNextCycle : Obligations.PopFreesSlotNextCycle := by
  refine ⟨fun s t p q data r ready h trace popped => ?_, fun s data ready full clean => ?_⟩
  · obtain ⟨rfl, rfl⟩ := eq_dataEdge_and_dataRecord (exec_decodeCmd_data p q data s ▸ h) trace
    have live := State.dataEdge_memRead_liveSlot ready p q data (State.count_pos_of_popOk ready (popReq := q) popped)
    rwa [State.liveSlot_zero ready] at live
  · obtain ⟨pushFull, pushesNone, accepts⟩ := State.dataEdge_pushPop_of_full ready full data
    refine ⟨_, _, dataCycle_next true true data ready.1 clean, s.dataEdge_trace .., pushFull, pushesNone,
      fun two_le => ?_⟩
    obtain ⟨popped, queue⟩ := accepts two_le
    have room : (s.dataEdge true true data).queue.length < (s.dataEdge true true data).params.C - 1 := by
      rw [queue, List.length_drop, full, State.dataEdge_params]
      omega
    obtain ⟨u, r', pushed, cycle, -, ok, queue_u⟩ :=
      exists_accepted_push (State.dataEdge_ready ready true true data) room (data := data)
        (by rwa [State.dataEdge_params])
    obtain ⟨rst, request, -⟩ :=
      requests_of_exec_decodeCmd (rst := false) (pushReq := true) (popReq := false) pushed cycle.trace
    refine ⟨popped, u, r', pushed, cycle.trace, resultCode_of_accepted rst request ok, ?_⟩
    rw [queue_u, queue, State.dataEdge_params, Bus.element]

end Sys2Proof.Machine

/-! # Proofs: implementation-defined choices (93_implementation_defined.md) -/

namespace Sys2Proof.Machine

/-! ## A stopped clock (row 15, log entry 2) -/

/-- A state that its own step gives back is held by a run of any length. -/
theorem runFor_of_step_self {s : State} (held : step s = .next s) (n : Nat) : runFor n s = .next s := by
  induction n with
  | zero => exact runFor_zero s
  | succ n ih =>
    rw [runFor_succ, held]
    exact ih

/-- Settles O8: a step with no event left gives its state back, and a run repeats it. -/
theorem stepHoldsStateWithoutCycle : Obligations.StepHoldsStateWithoutCycle := fun _ noEvents =>
  runFor_of_step_self (step_of_events_eq_nil noEvents)

end Sys2Proof.Machine
